-- ==== Sys2Proof/Word.lean ====
section
/-! DEFINITION. The one data width of the block: the byte (rules R8, R61). -/

namespace Sys2Proof

/-- A byte, 0..255; bit 7 is the most significant (rule R8). -/
abbrev Byte := BitVec 8

end Sys2Proof
end

