-- ==== Sys2Proof/Config.lean ====
section
/-! DEFINITION. What rule R38 calls "parameters or inputs of the step relation, not state": the parameters of rule R5, the
agents of rule R6 and the turns they take, and the values the spec leaves open, as opaque constants with no body. -/

namespace Sys2Proof

/-- The decoder's "three-valued readiness flag" (rule R162). -/
inductive Flag where
  | collecting
  | ready
  | finished
  deriving DecidableEq, Repr, Inhabited

/-- `PREEMPT_MODEL` (rules R5, R66): `irqAtomic` is normative, `freeInterleave` a permitted superset. -/
inductive PreemptModel where
  | irqAtomic
  | freeInterleave
  deriving DecidableEq, Repr, Inhabited

/-- The external frame codec as the block sees it: the record of rule R160. A parameter, never a field of State. -/
structure Codec where
  State : Type
  init : State
  feed : State → List Byte → State
  flag : State → Flag
  payload : State → List Byte
  buildFrame : List Byte → Nat → List Byte

/-- Which codec stands in the place of the parameter `CODEC`, as plain data.
`external` is the hardware's codec, uninterpreted. `reference` is `REFCODEC` (rules R176 to R179) and `script` the scripted
codec of program P5 (95_test_vectors.md): both test-only. DESIGN CHOICE, safe (log 4). -/
inductive CodecSel where
  | external
  | reference
  | script (rows : List (Flag × List Byte))
  deriving DecidableEq, Repr, Inhabited

/-- The parameters of rule R5. They are arguments of the spec's model; here they ride in State as a record no step changes,
so that a statement about every state holds for every value of them. DESIGN CHOICE, safe (log 1).
`C` and `CHUNK_MAX` are kept less one, so that the range 1..65535 of rule R5 is their type. -/
structure Params where
  capPred : Fin 65535
  chunkMaxPred : Fin 65535
  preempt : PreemptModel
  codec : CodecSel
  headerSize : Nat
  deriving DecidableEq, Repr, Inhabited

/-- `C`, the FIFO capacity in bytes and the bound on a payload, 1..65535 (rule R5). -/
def Params.cap (p : Params) : Nat := p.capPred.val + 1

/-- `CHUNK_MAX`, the capacity of the staging buffer, 1..65535 (rule R5). -/
def Params.chunkMax (p : Params) : Nat := p.chunkMaxPred.val + 1

/-- `SLEEP_MS` (rules R5, R266): timing only, read by no rule. -/
def Config.sleepMs : Nat := 100

/-- `C - 1` of the machine at reset: OPEN in the spec (D1). DESIGN CHOICE, safe (log 1). -/
opaque Config.capPred : Fin 65535

/-- `CHUNK_MAX - 1` of the machine at reset: "default `C`" (rule R5, D13). Other values are reached through `State.cfg`
(log 1). -/
def Config.chunkMaxPred : Fin 65535 := Config.capPred

/-- `HEADER_SIZE` of the machine at reset: OPEN, read by no step (rule R5). DESIGN CHOICE, safe (log 1). -/
opaque Config.headerSize : Nat

/-- The external codec's flag after a non-empty history of feeds: uninterpreted (D10). DEDUCED, safe (log 3). -/
opaque Config.codecFlag : List (List Byte) → Flag

/-- The external codec's payload after a history of feeds: uninterpreted (D10). DEDUCED, safe (log 3). -/
opaque Config.codecPayload : List (List Byte) → List Byte

/-- The external codec's `build_frame(payload, header_size)`: uninterpreted; no step reads it, only KC5 (rule R173). -/
opaque Config.codecBuildFrame : List Byte → Nat → List Byte

/-- The parameters of the machine at reset: what is open without a default stays open, `CHUNK_MAX` has its default `C` and
`PREEMPT_MODEL` is the normative `irq_atomic` (rule R5; logs 1 and 2). -/
def Params.atReset : Params :=
  { capPred := Config.capPred, chunkMaxPred := Config.chunkMaxPred, preempt := .irqAtomic, codec := .external,
    headerSize := Config.headerSize }

/-- The agents of rule R6, with the bench party `HOST`. -/
inductive Agent where
  | line
  | rxc
  | cons
  | sched
  | host
  deriving DecidableEq, Repr

/-- The two execution contexts of rule R228. -/
inductive Context where
  | irq
  | task
  deriving DecidableEq, Repr, Inhabited

/-- The operations of rule R229's table. -/
inductive CtxOp where
  | rxRead
  | trySend
  | tryRecv
  | feed
  | isReady
  | isFinish
  | getPayload
  | emit
  | suspend
  | takeLock
  deriving DecidableEq, Repr, Inhabited

/-- Who calls an operation in a context: the context's own agent, which holds the fixed role, or a second caller beside it
(rule R135). -/
inductive Caller where
  | own
  | second
  deriving DecidableEq, Repr, Inhabited

/-- One turn of a schedule: which agent steps, and with what input (rules R11, R38, R98). DESIGN CHOICE, safe (log 5).
`arrive b` is `LINE.arrive(b)`; `wake` is `SCHED`'s `WAKE`; `rxc` and `cons` are the directive `.step A`;
`issue bs` is `HOST` putting bytes on the command port; `host` is the taking of the next command from it;
`hostDuring gaps` is the same while bytes arrive inside the command, `gaps` listing, for each point between two of its
micro-steps in turn, the bytes that arrive there (rules R99, R146; log 9);
`call w c op` is caller `w` performing operation `op` in context `c` (rules R135, R229; log 11). -/
inductive Turn where
  | arrive (b : Byte)
  | wake
  | rxc
  | cons
  | issue (bs : List Byte)
  | host
  | hostDuring (gaps : List (List Byte))
  | call (w : Caller) (c : Context) (op : CtxOp)
  deriving DecidableEq, Repr, Inhabited

/-- The agent whose turn it is (rule R6); a call is charged to the agent that runs in its context (rule R228). -/
def Turn.agent : Turn → Agent
  | .arrive _ => .line
  | .wake => .sched
  | .rxc => .rxc
  | .cons => .cons
  | .issue _ => .host
  | .host => .host
  | .hostDuring _ => .host
  | .call _ .irq _ => .rxc
  | .call _ .task _ => .cons

/-- The turn taken when the schedule in State is exhausted: "Which enabled agent steps next is not fixed" (rule R11).
A free value, applied to the counter `tick` of State. DESIGN CHOICE, safe (log 5). -/
opaque Config.freeTurn : Nat → Turn

end Sys2Proof
end

