-- ==== Sys2Proof/Machine/Codec.lean ====
section
/-! DEFINITION. The codec behind the frame accumulator: the instances the parameter `CODEC` may take, the views the block
has of `DEC` (rule R30), and the contract KC1 to KC5 (rules R161, R170 to R173). -/

namespace Sys2Proof

/-- The codec's state after the feeds `h`, oldest first, from `CODEC.init`. By KC4 (rule R172) nothing else fixes it. -/
def Codec.after (c : Codec) (h : List (List Byte)) : c.State := h.foldl c.feed c.init

/-- The hardware's codec, uninterpreted: its state is its history of feeds, the most general state KC4 allows (log 3).
KC1 and KC2 hold by construction: the flag of the empty history is `collecting`, and a payload is cut at `cap` bytes. -/
def externalCodec (cap : Nat) : Codec where
  State := List (List Byte)
  init := []
  feed := fun h bs => h ++ [bs]
  flag := fun h => if h.isEmpty then .collecting else Config.codecFlag h
  payload := fun h => (Config.codecPayload h).take cap
  buildFrame := Config.codecBuildFrame

/-- `REFCODEC.State`: the triple `(flag, acc, res)` of rule R177. -/
structure RefState where
  flag : Flag
  acc : List Byte
  res : List Byte
  deriving DecidableEq, Repr

/-- The sum of a byte list modulo 256 (rule R176). -/
def byteSum (bs : List Byte) : Byte := bs.foldl (· + ·) 0

/-- `parse` of rule R179, on the bytes `acc` of the frame being collected and the pending bytes. The test `L > C - 2` is
written without subtraction, so that it is the spec's integer test for `C = 1` too (log 18). -/
def refParse (cap : Nat) (acc : List Byte) : List Byte → RefState
  | [] => ⟨.collecting, acc, []⟩
  | b :: r =>
    let acc' := acc ++ [b]
    let len := (acc'.headD 0).toNat
    if cap < len + 2 then refParse cap [] r
    else if acc'.length < len + 2 then refParse cap acc' r
    else if acc'.getD (len + 1) 0 = byteSum (acc'.take (len + 1)) then ⟨.ready, acc', r⟩
    else refParse cap [] r

/-- `REFCODEC.feed` (rule R178). -/
def refFeed (cap : Nat) (s : RefState) (bs : List Byte) : RefState :=
  match s.flag with
  | .ready => ⟨.finished, [], s.res ++ bs⟩
  | .finished => refParse cap [] (s.res ++ bs)
  | .collecting => refParse cap s.acc (s.res ++ bs)

/-- `REFCODEC.payload` (rule R177): `acc[1 : 1 + acc[0])` while ready, else the empty list. -/
def refPayload (s : RefState) : List Byte :=
  match s.flag with
  | .ready => (s.acc.drop 1).take (s.acc.headD 0).toNat
  | .collecting => []
  | .finished => []

/-- `REFCODEC.build_frame`: `[L] ++ p ++ [K]` (rule R176). -/
def refBuildFrame (p : List Byte) (_ : Nat) : List Byte :=
  let body := BitVec.ofNat 8 p.length :: p
  body ++ [byteSum body]

/-- `REFCODEC` (rules R176 to R179): test-only, not the hardware's codec; no claim about the hardware may rest on it. -/
def refCodec (cap : Nat) : Codec where
  State := RefState
  init := ⟨.collecting, [], []⟩
  feed := refFeed cap
  flag := RefState.flag
  payload := refPayload
  buildFrame := refBuildFrame

/-- The row a script shows after `i` feeds: row 0 stands for one feed; before it and beyond the list, collecting. -/
def scriptRow (rows : List (Flag × List Byte)) : Nat → Flag × List Byte
  | 0 => (.collecting, [])
  | i + 1 => rows.getD i (.collecting, [])

/-- The scripted codec of program P5: its state counts feeds; payloads are cut at `cap` bytes, so KC2 holds.
Test-only. P5 gives it no `build_frame`; that it frames a payload as itself is a filler no step reads. DESIGN CHOICE, safe
(log 4). -/
def scriptCodec (cap : Nat) (rows : List (Flag × List Byte)) : Codec where
  State := Nat
  init := 0
  feed := fun i _ => i + 1
  flag := fun i => (scriptRow rows i).1
  payload := fun i => (scriptRow rows i).2.take cap
  buildFrame := fun p _ => p

/-- The codec the parameters select. -/
def Params.codecOf (p : Params) : Codec :=
  match p.codec with
  | .external => externalCodec p.cap
  | .reference => refCodec p.cap
  | .script rows => scriptCodec p.cap rows

/-- `CODEC.flag(DEC)` (rule R30). -/
def Params.flagOf (p : Params) (h : List (List Byte)) : Flag := p.codecOf.flag (p.codecOf.after h)

/-- `CODEC.payload(DEC)` (rule R30). -/
def Params.payloadOf (p : Params) (h : List (List Byte)) : List Byte := p.codecOf.payload (p.codecOf.after h)

/-- KC1 (rule R161): the decoder as created shows `collecting`. -/
def Codec.InitialFlagCollecting (c : Codec) : Prop := c.flag c.init = .collecting

/-- KC2 (rule R170): in every reachable ready state the payload has at most `cap` bytes. "Reachable" is taken as reachable
by any feeds whatever: DESIGN CHOICE, safe (log 21). -/
def Codec.PayloadBounded (c : Codec) (cap : Nat) : Prop :=
  ∀ h, c.flag (c.after h) = .ready → (c.payload (c.after h)).length ≤ cap

/-- KC3 (rule R171): from every reachable ready state finitely many empty feeds, at least one, reach `finished`, and no
state before the last of them shows it. The rule does not say by which feeds a state is reachable; here it is by any
whatever, a non-empty feed while ready (which rule R165 refuses) included, so that as a premise it asks more of the codec
than the block's own runs need. DESIGN CHOICE, safe (log 21). -/
def Codec.ReachesFinished (c : Codec) : Prop :=
  ∀ h, c.flag (c.after h) = .ready →
    ∃ k, 1 ≤ k ∧ c.flag (c.after (h ++ List.replicate k [])) = .finished ∧
      ∀ j, 1 ≤ j → j < k → c.flag (c.after (h ++ List.replicate j [])) ≠ .finished

/-- Whether a frame is still being resolved after a feed that left the flag `f`: set by `ready`, cleared by `finished`
(the loop policy of rules R165, R255; the bit `RESOLVING` of rule R29 follows the same law). -/
def resolvingAfter (r : Bool) (f : Flag) : Bool :=
  match f with
  | .ready => true
  | .finished => false
  | .collecting => r

/-- The caller keeps the loop policy over the chunks `cs` fed from `s`: "after a `feed` that leaves the flag `ready`, only
`feed([])` until the flag is `finished`" (rule R173). `r` says whether a frame is being resolved. -/
def Codec.KeepsPolicy (c : Codec) (r : Bool) (s : c.State) : List (List Byte) → Prop
  | [] => True
  | bs :: cs =>
    (bs = [] ∨ (r = false ∧ c.flag s ≠ .ready)) ∧
      c.KeepsPolicy (resolvingAfter r (c.flag (c.feed s bs))) (c.feed s bs) cs

/-- The states after each feed of `cs` from `s`, in order. -/
def Codec.visits (c : Codec) (s : c.State) : List (List Byte) → List c.State
  | [] => []
  | bs :: cs => c.feed s bs :: c.visits (c.feed s bs) cs

/-- Whether a frame is still being resolved after the feeds `cs` from `s`. -/
def Codec.resolvingEnd (c : Codec) (r : Bool) (s : c.State) : List (List Byte) → Bool
  | [] => r
  | bs :: cs => c.resolvingEnd (resolvingAfter r (c.flag (c.feed s bs))) (c.feed s bs) cs

/-- The payloads of the frames shown `ready` by the feeds `cs` from `s`, in order. `last` is the payload last shown and not yet
`finished`: `ready` seen again with it is taken for the same frame, with another payload for "a further frame" (rules R162,
R197). DESIGN CHOICE, safe (log 21). -/
def Codec.framesShown (c : Codec) (s : c.State) (last : Option (List Byte)) : List (List Byte) → List (List Byte)
  | [] => []
  | bs :: cs =>
    let t := c.feed s bs
    match c.flag t with
    | .collecting => c.framesShown t last cs
    | .finished => c.framesShown t none cs
    | .ready =>
      if last = some (c.payload t) then c.framesShown t last cs
      else c.payload t :: c.framesShown t (some (c.payload t)) cs

/-- Nothing pending (rule R173): "no byte fed earlier that belongs to no completed frame; a fresh decoder is such a state".
The bytes fed since `CODEC.init`, in whatever chunks the loop policy allows, are the whole frames shown `ready` on the way,
no more and no fewer, and the last one shown is resolved. What makes a frame completed is the model's reading.
DESIGN CHOICE, safe (log 21). -/
def Codec.NothingPending (c : Codec) (h : Nat) (maxPayload : Nat) (s : c.State) : Prop :=
  ∃ cs : List (List Byte), s = c.after cs ∧ c.KeepsPolicy false c.init cs ∧ c.resolvingEnd false c.init cs = false ∧
    (∀ p ∈ c.framesShown c.init none cs, p.length ≤ maxPayload) ∧
    cs.flatten = ((c.framesShown c.init none cs).map fun p => c.buildFrame p h).flatten

/-- KC5 (rule R173, whose `maxPayload` is `C`) for payloads of at most `maxPayload` bytes and header size `h`: a well-formed
frame delivered in chunks under the loop policy to a decoder with nothing pending shows `ready` with its payload, at the
latest after finitely many further empty feeds (a), and every ready state on the way has that payload (b). The rule allows
empty feeds "in between" the chunks, and does not say whether that takes in empty feeds before the first chunk, nor whether
(b) covers the further empty feeds; here `cs` may start with empty feeds, whose ready states (b) then constrains too, and (b)
covers any number of further ones, past `finished` too. DESIGN CHOICE, safe (log 21). -/
def Codec.Reassembles (c : Codec) (h : Nat) (maxPayload : Nat) : Prop :=
  ∀ (p : List Byte) (s : c.State) (cs : List (List Byte)), p.length ≤ maxPayload → c.NothingPending h maxPayload s →
    c.flag s ≠ .ready → cs.flatten = c.buildFrame p h → c.KeepsPolicy false s cs →
      (∃ k, ∃ t ∈ c.visits s (cs ++ List.replicate k []), c.flag t = .ready ∧ c.payload t = p) ∧
      (∀ k, ∀ t ∈ c.visits s (cs ++ List.replicate k []), c.flag t = .ready → c.payload t = p)

end Sys2Proof
end

