-- ==== Sys2Proof/Machine/State.lean ====
section
/-! DEFINITION. The state of the block (rules R20 to R38), its reset value, and the reasons a step stops. -/

namespace Sys2Proof.Machine

/-- `RPC`, the program counter of agent `RXC` (rule R26). -/
inductive RpcPos where
  | rIdle
  | rRead
  | p1
  | p2
  | p3
  | p4
  deriving DecidableEq, Repr

/-- `SEQ`, the position of the consumer in the loop of the source's §4.4 (rule R27). -/
inductive SeqPos where
  | idle
  | poll
  | sleep
  | feed
  | check
  | flush
  deriving DecidableEq, Repr

/-- `CPC`, the micro-step of the `try_recv` in progress (rule R27). -/
inductive CpcPos where
  | c1
  | c2
  | c3
  | c4
  deriving DecidableEq, Repr

/-- The events of the ghost history `TRACE` (rule R34). -/
inductive Event where
  | arrive (b : Byte)
  | enq (b : Byte)
  | drop (b : Byte)
  | deq (b : Byte)
  | fed (bs : List Byte)
  | out (p : List Byte)
  deriving DecidableEq, Repr

/-- FIFO storage as a list of (slot index, byte) cells, indices strictly rising. A slot not listed holds no value: it was
never written (rules R21, R35). -/
abbrev Memory := List Host.Cell

/-- The six private latches of rules R26 and R27. -/
inductive Latch where
  | rb
  | ph
  | pt
  | ct
  | ch
  | cb
  deriving DecidableEq, Repr

/-- The state of the block. The fields from `slot` to `out` are the table of rule R20, in its order; a latch that holds
`none` holds no value, which is the spec's own state of it before its first write (rule R35; log 10). -/
structure State where
  /-- the parameters of rule R5; no step changes them (log 1) -/
  cfg : Params
  /-- `SLOT` (rule R21) -/
  slot : Memory
  /-- `HEAD`, the consumer's read cursor, 0..2C-1 (rule R22) -/
  head : Nat
  /-- `TAIL`, the producer's write cursor, 0..2C-1 (rule R23) -/
  tail : Nat
  /-- `EN`: false is bench mode, true is run mode (rule R25) -/
  en : Bool
  /-- `RPC` (rule R26) -/
  rpc : RpcPos
  /-- `RB`, the byte read from the receive register and not yet stored (rule R26) -/
  rb : Option Byte
  /-- `PH`, the producer's copy of `HEAD` (rule R26) -/
  ph : Option Nat
  /-- `PT`, the producer's copy of `TAIL` (rule R26) -/
  pt : Option Nat
  /-- `SEQ` (rule R27) -/
  seq : SeqPos
  /-- `CPC` (rule R27) -/
  cpc : CpcPos
  /-- `CT`, the consumer's copy of `TAIL` (rule R27) -/
  ct : Option Nat
  /-- `CH`, the consumer's copy of `HEAD` (rule R27) -/
  ch : Option Nat
  /-- `CB`, the byte read at `C3` (rule R27) -/
  cb : Option Byte
  /-- `CHUNK`, the staging buffer, oldest byte first (rule R28) -/
  chunk : List Byte
  /-- `RESOLVING` (rule R29) -/
  resolving : Bool
  /-- `DEC`: what was fed to the codec since `CODEC.init`, oldest feed first, which fixes the codec's state by KC4
  (rules R30, R172; DEDUCED, safe, log 3) -/
  dec : List (List Byte)
  /-- `OUT`, the payloads emitted so far, oldest first (rule R31) -/
  out : List (List Byte)
  /-- `RXAVAIL`, the environment's: bytes arrived and not yet read, oldest first (rule R32) -/
  rxAvail : List Byte
  /-- `TRACE`, ghost: read by no rule (rule R34) -/
  trace : List Event
  /-- the command side of the command port: bytes issued by `HOST` and not yet taken (rules R70, R99; log 7) -/
  port : List Byte
  /-- the response side of the command port: response bytes, oldest first (rule R96; log 7) -/
  resp : List Byte
  /-- the schedule and the environment's events, next turn first: inputs of the run (rule R38; log 5) -/
  turns : List Turn
  /-- the model's own counter of free turns taken (log 5) -/
  tick : Nat
  deriving DecidableEq, Repr

/-- Why the machine stops with a fault. The block itself raises none (rule R220): both are the reads rule R35 forbids. -/
inductive Fault where
  /-- a read of a slot that was never written: raised at `C3` and by `TRY_RECV` (rules R21, R35). Safe: the machine stops. -/
  | slotUnwritten
  /-- a read of a private latch that was never written: raised at `P2`, `P3`, `P4`, `C2`, `C3`, `C4` (rule R35). Safe: the
  machine stops. -/
  | latchUnwritten (l : Latch)
  deriving DecidableEq, Repr

/-- The closed list of refusal reasons of rule R235. A refusal changes no state and marks the run refused for good. All are
safe: the run ends, so nothing can be proved about what follows. -/
inductive Refusal where
  /-- opcode byte not in the map; raised by the taking of a command (rule R95). Safe. -/
  | reservedOpcode
  /-- a command cut short; raised by the taking of a command (rule R95; log 8). Safe. -/
  | truncated
  /-- any command while `EN = 1`; raised by every command's meaning (rules R99, R191). Safe. -/
  | runMode
  /-- non-empty feed while `FLAG = ready`; raised by `FEED` and the sequencer's `FEED` step (rules R165, R203). Safe. -/
  | feedWhileReady
  /-- `GET_PAYLOAD` while `FLAG != ready`; raised by `GET_PAYLOAD` (rule R168). Safe. -/
  | payloadNotReady
  /-- an operation from the wrong context, or a second producer or consumer; raised by a call turn (rules R135, R229). Safe. -/
  | role
  /-- an instruction with no meaning yet; raised by no arm of this model. Safe. -/
  | notModelled (mnemonic : String)
  deriving DecidableEq, Repr

/-- The state after reset (rule R36) of the block with the given parameters. -/
def State.resetWith (p : Params) : State :=
  { cfg := p, slot := [], head := 0, tail := 0, en := false, rpc := .rIdle, rb := none, ph := none, pt := none,
    seq := .idle, cpc := .c1, ct := none, ch := none, cb := none, chunk := [], resolving := false, dec := [], out := [],
    rxAvail := [], trace := [], port := [], resp := [], turns := [], tick := 0 }

/-- The machine right after reset (rules R36, R250). -/
def State.reset : State := State.resetWith Params.atReset

/-- What one step answers. -/
abbrev Result := Host.Outcome State Fault Refusal

end Sys2Proof.Machine
end

