-- ==== Sys2Proof/Machine/Ops.lean ====
section
/-! DEFINITION. The named operations the meanings share: slot storage, cursor arithmetic, the latch and cursor writes of the
micro-steps, the interrupt's entry and return, and the ends of a step. Each writes only what its docstring names. -/

namespace Sys2Proof.Machine

/-! ### Slot storage (rules R21, R60 to R63) -/

/-- `MemRead(i, 1)`: the byte at slot `i`, or `none` where the slot holds no value (rules R10, R35). -/
def Memory.read : Memory → Nat → Option Byte
  | [], _ => none
  | (i', b) :: m, i => if i = i' then some b else Memory.read m i

/-- `MemWrite(i, 1, b)`: slot `i` takes `b`, indices kept strictly rising (rule R10). -/
def Memory.write : Memory → Nat → Byte → Memory
  | [], i, b => [(i, b)]
  | (i', b') :: m, i, b =>
    if i < i' then (i, b) :: (i', b') :: m
    else if i = i' then (i, b) :: m
    else (i', b') :: Memory.write m i b

/-- Every listed index is above `lo` and indices rise strictly. -/
def Memory.risesAbove (lo : Nat) : Memory → Bool
  | [] => true
  | (i, _) :: m => decide (lo < i) && Memory.risesAbove i m

/-- The canonical form: slot indices strictly rising. An unlisted slot holds no value, so no listed entry equals one. -/
def Memory.wf : Memory → Bool
  | [] => true
  | (i, _) :: m => Memory.risesAbove i m

/-- Every listed index is a slot of the array, `0 .. C-1` (rule R21). -/
def Memory.within (cap : Nat) (m : Memory) : Bool := m.all fun c => decide (c.1 < cap)

/-! ### Cursor arithmetic (rules R8, R132) -/

/-- `(c + 1) mod 2C`. -/
def cursorInc (cap c : Nat) : Nat := (c + 1) % (2 * cap)

/-- `(a - b) mod 2C`, the mathematical remainder (rule R8). -/
def cursorDist (cap a b : Nat) : Nat := (a + (2 * cap - b % (2 * cap))) % (2 * cap)

/-- The slot a cursor names: `c mod C`. -/
def slotIndex (cap c : Nat) : Nat := c % cap

/-! ### The writes of the micro-steps (rules R121 to R124, R127 to R130) -/

/-- Append an event to the ghost history (rule R34). -/
def State.record (s : State) (e : Event) : State := { s with trace := s.trace ++ [e] }

/-- Append the event `f RB` to the ghost history; none where `RB` holds no value (log 14). -/
def State.recordRb (s : State) (f : Byte → Event) : State := { s with trace := s.trace ++ (s.rb.map f).toList }

/-- `RB <- b`. -/
def State.latchRb (s : State) (b : Byte) : State := { s with rb := some b }

/-- `PH <- HEAD` (rule R121). -/
def State.latchPh (s : State) : State := { s with ph := some s.head }

/-- `PT <- TAIL` (rule R122). -/
def State.latchPt (s : State) : State := { s with pt := some s.tail }

/-- `SLOT[PT mod C] <- RB` (rule R123). -/
def State.storeSlot (s : State) (pt : Nat) (b : Byte) : State :=
  { s with slot := s.slot.write (slotIndex s.cfg.cap pt) b }

/-- `TAIL <- (PT + 1) mod 2C` (rule R124). -/
def State.publish (s : State) (pt : Nat) : State := { s with tail := cursorInc s.cfg.cap pt }

/-- `CT <- TAIL` (rule R127). -/
def State.latchCt (s : State) : State := { s with ct := some s.tail }

/-- `CH <- HEAD` (rule R128). -/
def State.latchCh (s : State) : State := { s with ch := some s.head }

/-- `CB <- b`, the byte read from the slot (rule R129). -/
def State.latchCb (s : State) (b : Byte) : State := { s with cb := some b }

/-- `HEAD <- (CH + 1) mod 2C` (rule R130). -/
def State.release (s : State) (ch : Nat) : State := { s with head := cursorInc s.cfg.cap ch }

/-- The full test of rule R122: `(TAIL - ph) mod 2C = C`. -/
def State.fullBy (s : State) (ph : Nat) : Bool := decide (cursorDist s.cfg.cap s.tail ph = s.cfg.cap)

/-- `RPC <- p`. -/
def State.goRpc (s : State) (p : RpcPos) : State := { s with rpc := p }

/-- `CPC <- p`. -/
def State.goCpc (s : State) (p : CpcPos) : State := { s with cpc := p }

/-- `SEQ <- p`. -/
def State.goSeq (s : State) (p : SeqPos) : State := { s with seq := p }

/-- `RXAVAIL <- bs`. -/
def State.setRx (s : State) (bs : List Byte) : State := { s with rxAvail := bs }

/-- `CHUNK <- bs`. -/
def State.setChunk (s : State) (bs : List Byte) : State := { s with chunk := bs }

/-- `RESOLVING <- r`. -/
def State.setResolving (s : State) (r : Bool) : State := { s with resolving := r }

/-- `DEC <- CODEC.feed(DEC, bs)`, with its event (rules R163, R34). -/
def State.feedDec (s : State) (bs : List Byte) : State := { s with dec := s.dec ++ [bs], trace := s.trace ++ [.fed bs] }

/-- `emit(p)`: `OUT <- OUT ++ [p]`, with its event (rules R10, R34, R199). -/
def State.emit (s : State) (p : List Byte) : State := { s with out := s.out ++ [p], trace := s.trace ++ [.out p] }

/-- Response bytes appear on the response side of the command port (rule R96). -/
def State.respond (s : State) (bs : List Byte) : State := { s with resp := s.resp ++ bs }

/-! ### The receive interrupt: entry and return (rules R224, R225) -/

/-- Interrupt entry: "Entry saves nothing and changes nothing but `RPC`"; control goes to `R_READ` (rules R143, R224). -/
def State.enterHandler (s : State) : State := { s with rpc := .rRead }

/-- Interrupt return: `RPC <- R_IDLE`; "It restores nothing, because entry saved nothing" (rules R144, R225). -/
def State.leaveHandler (s : State) : State := { s with rpc := .rIdle }

/-! ### When a command may run (rule R99) -/

/-- A command runs in bench mode only; in run mode it is refused, `run_mode` (rules R99, R191). -/
def benchOnly (s : State) (r : Result) : Result := if s.en then .refused .runMode else r

/-! ### try_send as one piece (rule R125) -/

/-- `try_send(b)` with no other step between its micro-steps: `RB <- b`, `P1`, `P2` and, if not full, `P3`, `P4`; with the
Boolean result (rules R121 to R125). -/
def trySendNow (b : Byte) (s : State) : State × Bool :=
  let s := ((s.latchRb b).latchPh).latchPt
  if s.fullBy s.head then (s.record (.drop b), false)
  else (((s.storeSlot s.tail b).publish s.tail).record (.enq b), true)

end Sys2Proof.Machine
end

