-- ==== Sys2Proof/Machine/Flags.lean ====
section
/-! DEFINITION. The derived views of the state (flag, payload, pending, full, empty, occupancy: rules R24, R30, R33) and the
numeric codes of state values (rule R37). -/

namespace Sys2Proof.Machine

/-- `FLAG`, the readiness flag as a view of `DEC` (rule R30). -/
def State.flag (s : State) : Flag := s.cfg.flagOf s.dec

/-- `PAYLOAD`, meaningful only while `FLAG = ready` (rule R30). -/
def State.payload (s : State) : List Byte := s.cfg.payloadOf s.dec

/-- `occ = (TAIL - HEAD) mod 2C`, the number of bytes held (rule R24). -/
def State.occ (s : State) : Nat := cursorDist s.cfg.cap s.tail s.head

/-- The bytes held, oldest first: `SLOT[(HEAD + k) mod C]` for `k < occ` (rule R24); `none` for a slot with no value. -/
def State.held (s : State) : List (Option Byte) :=
  (List.range s.occ).map fun k => s.slot.read ((s.head + k) % s.cfg.cap)

/-- The receive interrupt is pending: `EN = 1 and RXAVAIL != [] and RPC = R_IDLE` (rules R33, R223). -/
def State.rxPending (s : State) : Bool := s.en && !s.rxAvail.isEmpty && decide (s.rpc = .rIdle)

/-- The gating of rule R202: under `irq_atomic` the consumer steps only while the handler is idle; never in bench mode. -/
def State.consGate (s : State) : Bool :=
  s.en && (decide (s.cfg.preempt = .freeInterleave) || decide (s.rpc = .rIdle))

/-- Codes of `FLAG` (rule R37). -/
def flagCode : Flag → Nat
  | .collecting => 0
  | .ready => 1
  | .finished => 2

/-- Codes of `SEQ` (rule R37). -/
def seqCode : SeqPos → Nat
  | .idle => 0
  | .poll => 1
  | .sleep => 2
  | .feed => 3
  | .check => 4
  | .flush => 5

/-- Codes of `RPC` (rule R37). -/
def rpcCode : RpcPos → Nat
  | .rIdle => 0
  | .rRead => 1
  | .p1 => 2
  | .p2 => 3
  | .p3 => 4
  | .p4 => 5

/-- Codes of `CPC` (rule R37). -/
def cpcCode : CpcPos → Nat
  | .c1 => 0
  | .c2 => 1
  | .c3 => 2
  | .c4 => 3

/-- Codes of `EN` and `RESOLVING` (rule R37). -/
def bitCode : Bool → Nat
  | false => 0
  | true => 1

/-- The width of a cursor written as a number: `W = ceil(log2(2C))` bits (rule R37), which is `floor(log2(2C - 1)) + 1` as `2C >= 2`. -/
def cursorWidth (cap : Nat) : Nat := Nat.log2 (2 * cap - 1) + 1

end Sys2Proof.Machine
end

