-- ==== Sys2Proof/Syntax.lean ====
section
/-! DEFINITION. The commands of the command port, one constructor per row of opcode_table.json (rule R94). -/

namespace Sys2Proof

/-- A command. `feed []` is the source's `feed(empty)` and the pseudo-operation `FEED_EMPTY` (rules R91, R98). -/
inductive Instr where
  | trySend (b : Byte)
  | tryRecv
  | feed (bs : List Byte)
  | isReady
  | isFinish
  | getPayload
  | rxService
  | rxregRead
  | start
  deriving DecidableEq, Repr

end Sys2Proof
end

