-- ==== Sys2Proof/WellFormed.lean ====
section
/-! DEFINITION. Which commands the encoding can spell. -/

namespace Sys2Proof

/-- The count `n` of format `V` is 0..65535 (rule R93); no other operand has a range narrower than its type. -/
def Instr.WellFormed : Instr → Bool
  | .trySend _ => true
  | .tryRecv => true
  | .feed bs => decide (bs.length < 65536)
  | .isReady => true
  | .isFinish => true
  | .getPayload => true
  | .rxService => true
  | .rxregRead => true
  | .start => true

end Sys2Proof
end

