-- ==== Sys2Proof/Decode.lean ====
section
/-! DEFINITION. The command decoder, total on any bytes, and the encoder (rules R91 to R95). -/

namespace Sys2Proof

/-- Why bytes spell no command: no byte at all, an opcode outside rule R94's map, or a stream that ends before the
command's last byte (rule R95; for bytes other than `FEED`'s data DEDUCED, safe, log 8). -/
inductive DecodeError where
  | empty
  | reservedOpcode
  | truncated
  deriving DecidableEq, Repr

/-- The three formats of rule R91. -/
inductive Format where
  | Z
  | B
  | V
  deriving DecidableEq, Repr

/-- One row of rule R94's opcode map. -/
structure OpcodeRow where
  opcode : Byte
  mnemonic : String
  format : Format
  deriving DecidableEq, Repr

/-- The opcode map of rule R94. -/
def opcodeMap : List OpcodeRow :=
  [⟨0x01, "TRY_SEND", .B⟩, ⟨0x02, "TRY_RECV", .Z⟩, ⟨0x10, "FEED", .V⟩, ⟨0x11, "IS_READY", .Z⟩, ⟨0x12, "IS_FINISH", .Z⟩,
   ⟨0x13, "GET_PAYLOAD", .Z⟩, ⟨0x20, "RX_SERVICE", .Z⟩, ⟨0x21, "RXREG_READ", .Z⟩, ⟨0x30, "START", .Z⟩]

/-- A 16-bit count, high byte first (rule R93). -/
def countOf (hi lo : Byte) : Nat := hi.toNat * 256 + lo.toNat

/-- The two bytes of a 16-bit count, high byte first (rules R8, R93): `zext_16`. -/
def countBytes (n : Nat) : List Byte := [BitVec.ofNat 8 (n / 256), BitVec.ofNat 8 n]

/-- Format `B`: the byte operand is byte 1 as it stands (rule R92). -/
def decodeByteOperand : List Byte → Except DecodeError (Instr × List Byte)
  | b :: rest => .ok (.trySend b, rest)
  | [] => .error .truncated

/-- Format `V`: a count, high byte first, then that many data bytes (rule R93). -/
def decodeCounted : List Byte → Except DecodeError (Instr × List Byte)
  | hi :: lo :: rest =>
    if countOf hi lo ≤ rest.length then .ok (.feed (rest.take (countOf hi lo)), rest.drop (countOf hi lo))
    else .error .truncated
  | _ => .error .truncated

/-- The decoder: the opcode alone selects the command and its format (rules R91, R94, R95). It gives the command and the
bytes after it. -/
def decode : List Byte → Except DecodeError (Instr × List Byte)
  | [] => .error .empty
  | op :: rest =>
    if op = 0x01 then decodeByteOperand rest
    else if op = 0x02 then .ok (.tryRecv, rest)
    else if op = 0x10 then decodeCounted rest
    else if op = 0x11 then .ok (.isReady, rest)
    else if op = 0x12 then .ok (.isFinish, rest)
    else if op = 0x13 then .ok (.getPayload, rest)
    else if op = 0x20 then .ok (.rxService, rest)
    else if op = 0x21 then .ok (.rxregRead, rest)
    else if op = 0x30 then .ok (.start, rest)
    else .error .reservedOpcode

/-- The encoder: the bytes of a command (rules R91 to R94). -/
def encode : Instr → List Byte
  | .trySend b => [0x01, b]
  | .tryRecv => [0x02]
  | .feed bs => 0x10 :: (countBytes bs.length ++ bs)
  | .isReady => [0x11]
  | .isFinish => [0x12]
  | .getPayload => [0x13]
  | .rxService => [0x20]
  | .rxregRead => [0x21]
  | .start => [0x30]

/-- Byte `k` of an instruction given as a number whose bit 0 is the least significant bit of the first byte; bytes at and
above bit `nbits` are zero. -/
def tableByte (nbits w k : Nat) : Byte :=
  if k < nbits / 8 then BitVec.ofNat 8 (w >>> (8 * k)) else 0

/-- How many bytes the command that starts with these three bytes has (rule R91); 1 for a reserved opcode. -/
def commandLength (op hi lo : Byte) : Nat :=
  if op = 0x01 then 2 else if op = 0x10 then 3 + countOf hi lo else 1

/-- The bytes of the instruction that `opcode_table.json`'s numbering gives as `w` in `nbits` bits, in the order they stand
on the command port. -/
def tableBytes (nbits w : Nat) : List Byte :=
  (List.range (commandLength (tableByte nbits w 0) (tableByte nbits w 1) (tableByte nbits w 2))).map (tableByte nbits w)

/-- The command the decoder reads from an instruction numbered as the opcode table numbers it. -/
def decodeTableWord (nbits w : Nat) : Option Instr :=
  match decode (tableBytes nbits w) with
  | .ok (i, _) => some i
  | .error _ => none

end Sys2Proof
end

