-- ==== Sys2Proof/Machine/Operands.lean ====
section
/-! DEFINITION. The response encodings of the command port (rules R37, R96). The operand forms of commands are the three
formats of rule R91 and are assembled by the decoder. -/

namespace Sys2Proof.Machine

/-- A Boolean response: 0x00 `false`, 0x01 `true` (rule R96). -/
def respBool (v : Bool) : List Byte := if v then [0x01] else [0x00]

/-- An optional byte response: 0x00 0x00 for `none`, 0x01 `b` for `some(b)` (rule R96). -/
def respOption : Option Byte → List Byte
  | none => [0x00, 0x00]
  | some b => [0x01, b]

/-- A payload response: `zext_16(m)`, high byte first, then the `m` bytes (rules R93, R96). -/
def respPayload (p : List Byte) : List Byte := countBytes p.length ++ p

end Sys2Proof.Machine
end

