-- ==== Sys2Proof/Machine/Accumulator.lean ====
section
/-! DEFINITION. The frame_accumulator family (43_frame_accumulator.md): `FEED`, `IS_READY`, `IS_FINISH`, `GET_PAYLOAD`. -/

namespace Sys2Proof.Machine

/-- A feed of `bs` would break the loop policy: `bs` is not empty and `FLAG = ready` (rule R165). -/
def State.feedRefused (s : State) (bs : List Byte) : Bool := !bs.isEmpty && decide (s.flag = .ready)

/-- `FEED bs` (rules R163 to R165). -/
def execFeed (bs : List Byte) (s : State) : Result :=
  benchOnly s (if s.feedRefused bs then .refused .feedWhileReady else .next (s.feedDec bs))

/-- `IS_READY` (rule R166). -/
def execIsReady (s : State) : Result := benchOnly s (.next (s.respond (respBool (decide (s.flag = .ready)))))

/-- `IS_FINISH` (rule R167). -/
def execIsFinish (s : State) : Result := benchOnly s (.next (s.respond (respBool (decide (s.flag = .finished)))))

/-- `GET_PAYLOAD` (rule R168): outside `ready` it is refused, never an empty list or stale bytes. -/
def execGetPayload (s : State) : Result :=
  benchOnly s (if s.flag = .ready then .next (s.respond (respPayload s.payload)) else .refused .payloadNotReady)

end Sys2Proof.Machine
end

