-- ==== Sys2Proof/Machine/Fifo.lean ====
section
/-! DEFINITION. The spsc_fifo family (41_spsc_fifo.md): the micro-steps `P1` to `P4` of `RXC`, `C1` to `C4` of `CONS`, and the
commands `TRY_SEND` and `TRY_RECV`. -/

namespace Sys2Proof.Machine

/-! ### The producer's micro-steps in run mode; the return point of both exits is `R_READ` (rule R145) -/

/-- `P1` (rule R121). -/
def stepP1 (s : State) : Result := .next (s.latchPh.goRpc .p2)

/-- `P2` (rule R122): drop the newest byte when full by the copy `PH`. -/
def stepP2 (s : State) : Result :=
  match s.ph with
  | none => .fault (.latchUnwritten .ph)
  | some ph =>
    if s.fullBy ph then .next ((s.latchPt.recordRb .drop).goRpc .rRead)
    else .next (s.latchPt.goRpc .p3)

/-- `P3` (rule R123). -/
def stepP3 (s : State) : Result :=
  match s.pt, s.rb with
  | none, _ => .fault (.latchUnwritten .pt)
  | some _, none => .fault (.latchUnwritten .rb)
  | some pt, some b => .next ((s.storeSlot pt b).goRpc .p4)

/-- `P4` (rule R124). -/
def stepP4 (s : State) : Result :=
  match s.pt with
  | none => .fault (.latchUnwritten .pt)
  | some pt => .next (((s.publish pt).recordRb .enq).goRpc .rRead)

/-! ### The consumer's micro-steps in run mode, with what `POLL` does at completion (rules R192 to R194) -/

/-- `C1` (rule R127). -/
def stepC1 (s : State) : Result := .next (s.latchCt.goCpc .c2)

/-- `POLL` completing with `none` (rule R193). -/
def pollNone (s : State) : State := (s.goCpc .c1).goSeq (if s.chunk.isEmpty then .sleep else .feed)

/-- `C2` (rules R128, R193). -/
def stepC2 (s : State) : Result :=
  match s.ct with
  | none => .fault (.latchUnwritten .ct)
  | some ct => if s.head = ct then .next (pollNone s.latchCh) else .next (s.latchCh.goCpc .c3)

/-- `C3` (rule R129): the read does not remove the byte. -/
def stepC3 (s : State) : Result :=
  match s.ch with
  | none => .fault (.latchUnwritten .ch)
  | some ch =>
    match s.slot.read (slotIndex s.cfg.cap ch) with
    | none => .fault .slotUnwritten
    | some b => .next ((s.latchCb b).goCpc .c4)

/-- `POLL` completing with `some(b)` (rule R194): the test is on the length before the append. -/
def pollSome (b : Byte) (s : State) : State :=
  ((s.setChunk (s.chunk ++ [b])).goCpc .c1).goSeq (if s.chunk.length + 1 = s.cfg.chunkMax then .feed else .poll)

/-- `C4` (rules R130, R194). -/
def stepC4 (s : State) : Result :=
  match s.ch, s.cb with
  | none, _ => .fault (.latchUnwritten .ch)
  | some _, none => .fault (.latchUnwritten .cb)
  | some ch, some b => .next (pollSome b ((s.release ch).record (.deq b)))

/-! ### The commands -/

/-- `TRY_SEND b` (rule R125). -/
def execTrySend (b : Byte) (s : State) : Result :=
  benchOnly s (.next ((trySendNow b s).1.respond (respBool (trySendNow b s).2)))

/-- `TRY_RECV` (rule R131): `C1`, `C2` and, if not empty, `C3`, `C4`, with no other step between; `SEQ`, `CHUNK` and `DEC`
are not touched. -/
def execTryRecv (s : State) : Result :=
  benchOnly s <|
    if s.head = s.tail then .next ((s.latchCt.latchCh).respond (respOption none))
    else match s.slot.read (slotIndex s.cfg.cap s.head) with
      | none => .fault .slotUnwritten
      | some b =>
        .next ((((s.latchCt.latchCh.latchCb b).release s.head).record (.deq b)).respond (respOption (some b)))

end Sys2Proof.Machine
end

