-- ==== Sys2Proof/Machine/Capture.lean ====
section
/-! DEFINITION. The uart_rx_capture family (42_rx_capture.md): the arrival of a byte, the handler's entry, its read loop and
return, agent `RXC`'s one step, and the commands `RXREG_READ` and `RX_SERVICE`. -/

namespace Sys2Proof.Machine

/-- `LINE.arrive(b)` (rule R141): enabled in every state, in both modes. -/
def lineArrive (b : Byte) (s : State) : State := (s.setRx (s.rxAvail ++ [b])).record (.arrive b)

/-- `R-READ` (rule R144): one turn of the "tight loop"; an empty register ends it. -/
def stepRRead (s : State) : Result :=
  match s.rxAvail with
  | b :: r => .next (((s.setRx r).latchRb b).goRpc .p1)
  | [] => .next s.leaveHandler

/-- `RXC` at `R_IDLE`: `R-ENTER` while the interrupt is pending (rule R143); otherwise it has no enabled step (log 6). -/
def stepREnter (s : State) : Result :=
  if s.rxAvail.isEmpty then .next s else .next s.enterHandler

/-- Agent `RXC` takes its one enabled step, chosen by `RPC` (rules R26, R100); in bench mode it has none (rule R25). -/
def stepRxc (s : State) : Result :=
  if s.en then
    match s.rpc with
    | .rIdle => stepREnter s
    | .rRead => stepRRead s
    | .p1 => stepP1 s
    | .p2 => stepP2 s
    | .p3 => stepP3 s
    | .p4 => stepP4 s
  else .next s

/-- `RXREG_READ` (rule R142): the read is destructive and the byte goes to `HOST`, not to the FIFO. -/
def execRxregRead (s : State) : Result :=
  benchOnly s <|
    match s.rxAvail with
    | b :: r => .next ((s.setRx r).respond (respOption (some b)))
    | [] => .next (s.respond (respOption none))

/-- The handler's loop over the bytes waiting, each read and sent in turn (rules R144, R145, R146). -/
def serviceLoop : List Byte → State → State
  | [], s => s
  | b :: r, s => serviceLoop r (trySendNow b (s.setRx r)).1

/-- `RX_SERVICE` (rule R146): the handler once by hand, from entry to return. -/
def execRxService (s : State) : Result := benchOnly s (.next (serviceLoop s.rxAvail s).leaveHandler)

end Sys2Proof.Machine
end

