-- ==== Sys2Proof/Machine/Sequencer.lean ====
section
/-! DEFINITION. The line_decoder family (44_line_decoder.md): the command `START`, the environment's `WAKE`, the steps `FEED`,
`CHECK` and `FLUSH`, agent `CONS`'s one step, and the text of the log call outside the block (rule R199). -/

namespace Sys2Proof.Machine

/-- `START` (rule R191): `EN <- 1; SEQ <- POLL`. Nothing else changes. -/
def execStart (s : State) : Result := benchOnly s (.next { s with en := true, seq := .poll })

/-- `WAKE` (rule R195): enabled exactly when `SEQ = SLEEP`; it is not gated by `RPC` (rule R202). -/
def stepWake (s : State) : State := if s.seq = .sleep then s.goSeq .poll else s

/-- The `FEED` step (rule R196), the same operation as the command (rule R163), so refused for a non-empty chunk while
ready (rules R165, R203; log 12). -/
def stepFeed (s : State) : Result :=
  if s.feedRefused s.chunk then .refused .feedWhileReady
  else .next (((s.feedDec s.chunk).setChunk []).goSeq .check)

/-- The `CHECK` step (rule R197). -/
def stepCheck (s : State) : State :=
  match s.flag with
  | .ready => ((s.emit s.payload).setResolving true).goSeq .flush
  | .finished => (s.setResolving false).goSeq .poll
  | .collecting => s.goSeq (if s.resolving then .flush else .poll)

/-- The `FLUSH` step (rule R198). -/
def stepFlush (s : State) : State := (s.feedDec []).goSeq .check

/-- One micro-step of the `try_recv` in progress (rule R192). -/
def stepPoll (s : State) : Result :=
  match s.cpc with
  | .c1 => stepC1 s
  | .c2 => stepC2 s
  | .c3 => stepC3 s
  | .c4 => stepC4 s

/-- Agent `CONS` takes its one enabled step, chosen by `SEQ` and `CPC` under the gating of rule R202; in `IDLE`, in `SLEEP`
and behind the gate it has none (rules R66, R195; log 6). -/
def stepCons (s : State) : Result :=
  if s.consGate then
    match s.seq with
    | .idle => .next s
    | .poll => stepPoll s
    | .sleep => .next s
    | .feed => stepFeed s
    | .check => .next (stepCheck s)
    | .flush => .next (stepFlush s)
  else .next s

/-! ### The log call of an emitted payload, outside the block (rule R199; log 19) -/

/-- One upper-case hexadecimal digit. -/
def hexDigit (n : Nat) : Char := "0123456789ABCDEF".toList.getD n '?'

/-- A byte as `0x` and two upper-case hexadecimal digits. -/
def hexByte (b : Byte) : List Char := ['0', 'x', hexDigit (b.toNat / 16), hexDigit (b.toNat % 16)]

/-- The message of the log call at level `INFO`, target `serial`: `recv: [`, the bytes separated by `, `, then `]`. -/
def logMessage (p : List Byte) : List Char :=
  "recv: [".toList ++ List.intercalate ", ".toList (p.map hexByte) ++ "]".toList

end Sys2Proof.Machine
end

