-- ==== Sys2Proof/Machine/Dispatch.lean ====
section
/-! DEFINITION. One arm per command. -/

namespace Sys2Proof.Machine

def exec (i : Instr) (s : State) : Host.Outcome State Fault Refusal :=
  match i with
  | .trySend b => Sys2Proof.Machine.execTrySend b s
  | .tryRecv => Sys2Proof.Machine.execTryRecv s
  | .feed bs => Sys2Proof.Machine.execFeed bs s
  | .isReady => Sys2Proof.Machine.execIsReady s
  | .isFinish => Sys2Proof.Machine.execIsFinish s
  | .getPayload => Sys2Proof.Machine.execGetPayload s
  | .rxService => Sys2Proof.Machine.execRxService s
  | .rxregRead => Sys2Proof.Machine.execRxregRead s
  | .start => Sys2Proof.Machine.execStart s

end Sys2Proof.Machine
end

