-- ==== Sys2Proof/Machine/During.lean ====
section
/-! DEFINITION. A command while bytes arrive inside it: it runs "to completion (all its micro-steps, with no step of any other
agent in between except `LINE.arrive`, which touches only `RXAVAIL`)" (rules R99, R146). `gaps` lists the bytes that arrive
at each point between two micro-steps, in turn; where it is too short nothing arrives, and what is left over at the end
falls outside the command (log 9). -/

namespace Sys2Proof.Machine

/-- The bytes `bs` arrive one after the other: `LINE.arrive` of each (rule R141). -/
def lineArrives (bs : List Byte) (s : State) : State :=
  { s with rxAvail := s.rxAvail ++ bs, trace := s.trace ++ bs.map .arrive }

/-- The bytes that arrive at the next point of a command. -/
def arriveNext (gaps : List (List Byte)) (s : State) : State := lineArrives (gaps.headD []) s

/-- `try_send(b)` with arrivals after `P1`, `P2` and `P3` (rules R121 to R124): the state, the Boolean result, and the gaps
not used. -/
def trySendDuring (b : Byte) (gaps : List (List Byte)) (s : State) : State × Bool × List (List Byte) :=
  let s1 := (arriveNext gaps (s.latchRb b).latchPh).latchPt
  if s1.fullBy s.head then (s1.record (.drop b), false, gaps.tail)
  else
    let s2 := (arriveNext gaps.tail s1).storeSlot s.tail b
    (((arriveNext (gaps.drop 2) s2).publish s.tail).record (.enq b), true, gaps.drop 3)

/-- `TRY_SEND b` with arrivals inside. -/
def execTrySendDuring (b : Byte) (gaps : List (List Byte)) (s : State) : Result :=
  benchOnly s (.next ((trySendDuring b gaps s).1.respond (respBool (trySendDuring b gaps s).2.1)))

/-- `TRY_RECV` with arrivals after `C1`, `C2` and `C3` (rules R127 to R131). -/
def execTryRecvDuring (gaps : List (List Byte)) (s : State) : Result :=
  let s1 := (arriveNext gaps s.latchCt).latchCh
  benchOnly s <|
    if s.head = s.tail then .next (s1.respond (respOption none))
    else match s.slot.read (slotIndex s.cfg.cap s.head) with
      | none => .fault .slotUnwritten
      | some b =>
        let s2 := (arriveNext gaps.tail s1).latchCb b
        .next ((((arriveNext (gaps.drop 2) s2).release s.head).record (.deq b)).respond (respOption (some b)))

/-- The handler's loop with arrivals after each `R-READ` and each micro-step of the `try_send` that follows it (rules R144,
R145): it ends only on an empty register. The first argument bounds the bytes it may yet read. -/
def serviceDuring : Nat → List (List Byte) → State → State
  | 0, _, s => s
  | n + 1, gaps, s =>
    match s.rxAvail with
    | [] => s
    | b :: r =>
      let sent := trySendDuring b gaps.tail (arriveNext gaps (s.setRx r))
      serviceDuring n sent.2.2.tail (arriveNext sent.2.2 sent.1)

/-- `RX_SERVICE` with arrivals inside, the first of them between the handler's entry and its first read (rule R146). -/
def execRxServiceDuring (gaps : List (List Byte)) (s : State) : Result :=
  benchOnly s (.next
    (serviceDuring (s.rxAvail.length + gaps.flatten.length) gaps.tail (arriveNext gaps s)).leaveHandler)

/-- A command with arrivals inside. The commands of one step have no point inside. -/
def execDuring (i : Instr) (gaps : List (List Byte)) (s : State) : Result :=
  match i with
  | .trySend b => execTrySendDuring b gaps s
  | .tryRecv => execTryRecvDuring gaps s
  | .feed bs => exec (.feed bs) s
  | .isReady => exec .isReady s
  | .isFinish => exec .isFinish s
  | .getPayload => exec .getPayload s
  | .rxService => execRxServiceDuring gaps s
  | .rxregRead => exec .rxregRead s
  | .start => exec .start s

end Sys2Proof.Machine
end

