-- ==== Sys2Proof/Machine/Fetch.lean ====
section
/-! DEFINITION. The taking of a command from the command port (rules R70, R91, R99), and the choice of the next turn. -/

namespace Sys2Proof.Machine

/-- The command at the front of the port and the state with its bytes consumed; "commands are consumed from the command port
in the order issued and never stored" (rule R70). -/
def fetch (s : State) : Except DecodeError (Instr × State) :=
  match decode s.port with
  | .ok (i, rest) => .ok (i, { s with port := rest })
  | .error e => .error e

/-- `HOST` puts bytes on the command port (rule R99). The rule lets it issue in bench mode only and does not say when a command
issued in run mode is refused: here the bytes go on the port unrefused and the taking of the command is refused, `run_mode`.
DESIGN CHOICE, safe (log 7). -/
def hostIssue (bs : List Byte) (s : State) : State := { s with port := s.port ++ bs }

/-- The next turn and the state without it: the schedule's first turn, or a free one when the schedule is exhausted (log 5). -/
def nextTurn (s : State) : Turn × State :=
  match s.turns with
  | t :: ts => (t, { s with turns := ts })
  | [] => (Config.freeTurn s.tick, { s with tick := s.tick + 1 })

/-- The state with a command's bytes at the front of the port and a turn of `HOST` next. -/
def placeCommand (bs : List Byte) (s : State) : State := { s with port := bs ++ s.port, turns := .host :: s.turns }

end Sys2Proof.Machine
end

