-- ==== Sys2Proof/Machine/Roles.lean ====
section
/-! DEFINITION. Which context may do what (rules R135, R228, R229), and what a use outside that is. -/

namespace Sys2Proof.Machine

/-- Rule R229's table; taking a lock is in neither context's path. -/
def permits : Context → CtxOp → Bool
  | .irq, .rxRead => true
  | .irq, .trySend => true
  | .irq, .tryRecv => false
  | .irq, .feed => false
  | .irq, .isReady => false
  | .irq, .isFinish => false
  | .irq, .getPayload => false
  | .irq, .emit => false
  | .irq, .suspend => false
  | .irq, .takeLock => false
  | .task, .rxRead => false
  | .task, .trySend => false
  | .task, .tryRecv => true
  | .task, .feed => true
  | .task, .isReady => true
  | .task, .isFinish => true
  | .task, .getPayload => true
  | .task, .emit => true
  | .task, .suspend => true
  | .task, .takeLock => false

/-- The operations the one enabled step of `RXC` performs (rules R143 to R145). -/
def rxcOps (s : State) : List CtxOp :=
  if s.en then
    match s.rpc with
    | .rIdle => []
    | .rRead => [.rxRead]
    | .p1 => [.trySend]
    | .p2 => [.trySend]
    | .p3 => [.trySend]
    | .p4 => [.trySend]
  else []

/-- The operations `CHECK` takes together (rule R197): `is_ready` and `is_finish` at every flag value, `get_payload` and the
emission only at `ready`. Which of them a given flag value leaves out is the model's reading. DESIGN CHOICE, safe (log 11). -/
def checkOps : Flag → List CtxOp
  | .ready => [.isReady, .isFinish, .getPayload, .emit]
  | .finished => [.isReady, .isFinish]
  | .collecting => [.isReady, .isFinish]

/-- The operations the one enabled step of `CONS` performs (rules R192 to R198); the `C2` that completes with `none` and an
empty chunk also suspends (rule R193). -/
def consOps (s : State) : List CtxOp :=
  if s.consGate then
    match s.seq with
    | .idle => []
    | .poll => if s.cpc = .c2 ∧ s.ct = some s.head ∧ s.chunk = [] then [.tryRecv, .suspend] else [.tryRecv]
    | .sleep => []
    | .feed => [.feed]
    | .check => checkOps s.flag
    | .flush => [.feed]
  else []

/-- The context's own agent calls an operation that the context may do: it is that agent's one enabled step where that step
performs the operation, and is refused, `role`, anywhere else (log 11). -/
def stepOwnCall (c : Context) (op : CtxOp) (s : State) : Result :=
  match c with
  | .irq => if op ∈ rxcOps s then stepRxc s else .refused .role
  | .task => if op ∈ consOps s then stepCons s else .refused .role

/-- A caller performs an operation in a context. Outside rule R229's table it is refused, `role`, and so is any call by a
second caller: "the model refuses it (`refuse(role)`), it does not pick an outcome" (rule R135; log 11). -/
def stepCall (w : Caller) (c : Context) (op : CtxOp) (s : State) : Result :=
  match w with
  | .own => if permits c op then stepOwnCall c op s else .refused .role
  | .second => .refused .role

end Sys2Proof.Machine
end

