-- ==== Sys2Proof/Machine/Turns.lean ====
section
/-! DEFINITION. What each turn does: one step of one agent. -/

namespace Sys2Proof.Machine

/-- `HOST`'s next command is taken from the port and runs to completion by `run` (rule R99). An empty port is an idle turn
(log 6); bytes that spell no command are refused (rule R95; log 20). -/
def takeCommand (run : Instr → State → Result) (s : State) : Result :=
  match fetch s with
  | .ok (i, s') => run i s'
  | .error .empty => .next s
  | .error .reservedOpcode => .refused .reservedOpcode
  | .error .truncated => .refused .truncated

/-- A command with no arrival inside it. -/
def stepHost (s : State) : Host.Outcome State Fault Refusal := takeCommand exec s

/-- A command with the arrivals `gaps` inside it (rules R99, R146; log 9). -/
def stepHostDuring (gaps : List (List Byte)) (s : State) : Host.Outcome State Fault Refusal :=
  takeCommand (fun i s' => execDuring i gaps s') s

/-- One turn: one step of one agent (rules R6, R11). -/
def takeTurn (t : Turn) (s : State) : Host.Outcome State Fault Refusal :=
  match t with
  | .arrive b => .next (lineArrive b s)
  | .wake => .next (stepWake s)
  | .rxc => stepRxc s
  | .cons => stepCons s
  | .issue bs => .next (hostIssue bs s)
  | .host => stepHost s
  | .hostDuring gaps => stepHostDuring gaps s
  | .call w c op => stepCall w c op s

end Sys2Proof.Machine
end

