-- ==== Sys2Proof/Safety.lean ====
section
/-! DEFINITION. What counts as a well-kept state and a safe run, in the terms the statements use: the invariant of the block
(rules R24, R27 to R29, R35, R134), its histories (rules R72, R133), launch and quiescence (rules R252, R269). -/

namespace Sys2Proof.Machine

/-! ### Histories -/

/-- The bytes enqueued, in order (rule R34). -/
def enqsOf (tr : List Event) : List Byte :=
  tr.filterMap fun e => match e with
    | .enq b => some b
    | _ => none

/-- The bytes dequeued, in order. -/
def deqsOf (tr : List Event) : List Byte :=
  tr.filterMap fun e => match e with
    | .deq b => some b
    | _ => none

/-- The bytes that arrived, in order. -/
def arrivedOf (tr : List Event) : List Byte :=
  tr.filterMap fun e => match e with
    | .arrive b => some b
    | _ => none

/-- The bytes a `try_send` disposed of, enqueued or dropped, in order. -/
def sentOf (tr : List Event) : List Byte :=
  tr.filterMap fun e => match e with
    | .enq b => some b
    | .drop b => some b
    | _ => none

/-- The bytes fed to the decoder, in order. -/
def fedOf (tr : List Event) : List Byte :=
  (tr.filterMap fun e => match e with
    | .fed bs => some bs
    | _ => none).flatten

/-- The events other than arrivals, in order. -/
def othersOf (tr : List Event) : List Event :=
  tr.filter fun e => match e with
    | .arrive _ => false
    | _ => true

/-- The payloads emitted, in order. -/
def outsOf (tr : List Event) : List (List Byte) :=
  tr.filterMap fun e => match e with
    | .out p => some p
    | _ => none

/-- The byte the handler has read and not yet disposed of (rule R26). -/
def State.inFlight (s : State) : List Byte :=
  match s.rpc with
  | .rIdle => []
  | .rRead => []
  | .p1 => s.rb.toList
  | .p2 => s.rb.toList
  | .p3 => s.rb.toList
  | .p4 => s.rb.toList

/-- The FIFO's history law (rule R133): what was enqueued is what was dequeued followed by what is held. -/
def State.FifoHistory (s : State) : Prop :=
  (enqsOf s.trace).map some = (deqsOf s.trace).map some ++ s.held

/-- The capture side's law in run mode (rule R133): every byte that arrived was sent or dropped, is in the handler's hands, or
waits in the receive register, in arrival order. -/
def State.CaptureHistory (s : State) : Prop :=
  arrivedOf s.trace = sentOf s.trace ++ s.inFlight ++ s.rxAvail

/-- The decoder side's law in run mode (rule R72): every byte dequeued was fed or waits in `CHUNK`, in order. -/
def State.FeedHistory (s : State) : Prop := deqsOf s.trace = fedOf s.trace ++ s.chunk

/-! ### The invariant -/

/-- A copy of `HEAD` the producer may act on (rule R134): it sees the FIFO as full as it is or fuller, and under `irq_atomic`
exactly as full. -/
def State.PhOk (s : State) (ph : Nat) : Prop :=
  s.occ ≤ cursorDist s.cfg.cap s.tail ph ∧ cursorDist s.cfg.cap s.tail ph ≤ s.cfg.cap ∧
    (s.cfg.preempt = .irqAtomic → ph = s.head)

/-- What holds of the producer's latches at each position of `RPC` (rules R35, R121 to R124). -/
def State.ProducerOk (s : State) : Prop :=
  match s.rpc with
  | .rIdle => True
  | .rRead => True
  | .p1 => ∃ b, s.rb = some b
  | .p2 => ∃ b ph, s.rb = some b ∧ s.ph = some ph ∧ s.PhOk ph
  | .p3 => ∃ b ph, s.rb = some b ∧ s.ph = some ph ∧ s.PhOk ph ∧ cursorDist s.cfg.cap s.tail ph ≠ s.cfg.cap ∧
      s.pt = some s.tail
  | .p4 => ∃ b ph, s.rb = some b ∧ s.ph = some ph ∧ s.PhOk ph ∧ cursorDist s.cfg.cap s.tail ph ≠ s.cfg.cap ∧
      s.pt = some s.tail ∧ s.slot.read (slotIndex s.cfg.cap s.tail) = some b

/-- What holds of the consumer's latches at each position of `CPC` (rules R35, R127 to R130). -/
def State.ConsumerOk (s : State) : Prop :=
  match s.cpc with
  | .c1 => True
  | .c2 => ∃ ct, s.ct = some ct ∧ ct < 2 * s.cfg.cap ∧ cursorDist s.cfg.cap ct s.head ≤ s.occ
  | .c3 => ∃ ct, s.ct = some ct ∧ ct < 2 * s.cfg.cap ∧ cursorDist s.cfg.cap ct s.head ≤ s.occ ∧ ct ≠ s.head ∧
      s.ch = some s.head
  | .c4 => ∃ ct b, s.ct = some ct ∧ ct < 2 * s.cfg.cap ∧ cursorDist s.cfg.cap ct s.head ≤ s.occ ∧ ct ≠ s.head ∧
      s.ch = some s.head ∧ s.cb = some b ∧ s.slot.read (slotIndex s.cfg.cap s.head) = some b

/-- What holds of `CHUNK` and `RESOLVING` at each position of `SEQ` (rules R28, R29, R195, R196). -/
def State.LoopOk (s : State) : Prop :=
  match s.seq with
  | .idle => s.chunk = [] ∧ s.resolving = false
  | .poll => s.chunk.length < s.cfg.chunkMax ∧ s.resolving = false
  | .sleep => s.chunk = [] ∧ s.resolving = false
  | .feed => s.chunk ≠ [] ∧ s.chunk.length ≤ s.cfg.chunkMax ∧ s.resolving = false
  | .check => s.chunk = []
  | .flush => s.chunk = [] ∧ s.resolving = true

/-- The FIFO invariant, "rule R24 holds" (rule R252): cursors in range, capacity kept, and bytes in the slots held. -/
structure State.FifoInv (s : State) : Prop where
  /-- `HEAD` is a cursor (rule R22) -/
  head_lt : s.head < 2 * s.cfg.cap
  /-- `TAIL` is a cursor (rule R23) -/
  tail_lt : s.tail < 2 * s.cfg.cap
  /-- capacity is never exceeded (rule R24) -/
  occ_le : s.occ ≤ s.cfg.cap
  /-- slot storage keeps its canonical form -/
  slot_wf : s.slot.wf = true
  /-- only the slots `0 .. C-1` exist (rule R21) -/
  slot_within : s.slot.within s.cfg.cap = true
  /-- every slot of the occupied range was written (rule R35) -/
  held_written : ∀ k, k < s.occ → (s.slot.read ((s.head + k) % s.cfg.cap)).isSome = true

/-- The cursor latches hold cursors or nothing (the types of rule R20). -/
def State.LatchesInRange (s : State) : Prop := ∀ v, some v ∈ [s.ph, s.pt, s.ct, s.ch] → v < 2 * s.cfg.cap

/-- The invariant of the block. Each field names the rule it comes from. -/
structure State.Inv (s : State) : Prop extends s.FifoInv where
  /-- the latches hold cursors (rules R26, R27) -/
  latches_lt : s.LatchesInRange
  /-- the producer's latches (rules R35, R134) -/
  producer : s.ProducerOk
  /-- the consumer's latches (rules R35, R134) -/
  consumer : s.ConsumerOk
  /-- "whenever `SEQ` is not `POLL`, `CPC = C1`" (rule R27) -/
  cpc_home : s.seq ≠ .poll → s.cpc = .c1
  /-- `CHUNK` and `RESOLVING` (rules R28, R29) -/
  loop : s.LoopOk
  /-- bench mode is `SEQ = IDLE` (rules R25, R27) -/
  bench_seq : s.en = false ↔ s.seq = .idle
  /-- in bench mode the handler is not running (rule R25) -/
  bench_rpc : s.en = false → s.rpc = .rIdle

/-- The decoder's protocol in run mode (rule R203): the next feed of a chunk does not meet `FLAG = ready`. -/
def State.FlagGuard (s : State) : Prop :=
  s.seq = .poll ∨ s.seq = .sleep ∨ s.seq = .feed → s.flag ≠ .ready

/-! ### Runs -/

/-- `n` steps of one kind in a row, stopping at the first fault or refusal. -/
def iterate (f : State → Result) : Nat → State → Result
  | 0, s => .next s
  | n + 1, s =>
    match f s with
    | .next s' => iterate f n s'
    | .fault r => .fault r
    | .refused r => .refused r

/-- The launch premises of rule R252 other than `at_reset`, each by its name. Its `not_refused` needs no field: a refusal is
an outcome that no state follows, so no state has one on record (rules R7, R235). -/
structure State.Launch (s : State) : Prop where
  fifo_inv : s.FifoInv
  handler_idle : s.rpc = .rIdle
  seq_idle : s.seq = .idle ∧ s.cpc = .c1 ∧ s.en = false
  chunk_empty : s.chunk = []
  not_resolving : s.resolving = false
  flag_not_ready : s.flag ≠ .ready

/-- `at_reset`, the launch premise that implies all the others (rule R252). -/
def State.AtReset (s : State) : Prop := ∃ p, s = State.resetWith p

/-- The turns `ts` taken one after the other, stopping at the first fault or refusal. -/
def runTurns : List Turn → State → Result
  | [], s => .next s
  | tn :: ts, s =>
    match takeTurn tn s with
    | .next s' => runTurns ts s'
    | .fault r => .fault r
    | .refused r => .refused r

/-- A turn of the block's own agents or of the environment: no command taken, no call. -/
def ownTurn : Turn → Bool
  | .arrive _ => true
  | .wake => true
  | .rxc => true
  | .cons => true
  | .issue _ => true
  | .host => false
  | .hostDuring _ => false
  | .call _ _ _ => false

/-- The quiescent state of rule R269. -/
def State.Quiescent (s : State) : Prop :=
  s.rxAvail = [] ∧ s.rpc = .rIdle ∧ s.head = s.tail ∧ s.seq = .sleep ∧ s.cpc = .c1 ∧ s.chunk = []

/-! ### Fairness (rule R268): premises on a schedule, none of them a rule of a step -/

/-- An execution under the schedule `σ`: the states before each turn. No turn of it faults or is refused. -/
def IsRun (σ : Nat → Turn) (ρ : Nat → State) : Prop := ∀ n, takeTurn (σ n) (ρ n) = .next (ρ (n + 1))

/-- `CONS` has an enabled step (rules R66, R195, R202). -/
def State.consEnabled (s : State) : Bool := s.consGate && decide (s.seq ≠ .idle) && decide (s.seq ≠ .sleep)

/-- F1: "if the receive interrupt stays pending, `R-ENTER` eventually happens, and a started handler keeps stepping". -/
structure FairRxc (σ : Nat → Turn) (ρ : Nat → State) : Prop where
  enters : ∀ n, (∀ m, n ≤ m → (ρ m).rxPending = true) → ∃ m, n ≤ m ∧ (σ m).agent = .rxc
  continues : ∀ n, (ρ n).en = true → (ρ n).rpc ≠ .rIdle → ∃ m, n ≤ m ∧ (σ m).agent = .rxc

/-- F2: "if `CONS` has an enabled step continuously, it eventually takes it". -/
def FairCons (σ : Nat → Turn) (ρ : Nat → State) : Prop :=
  ∀ n, (∀ m, n ≤ m → (ρ m).consEnabled = true) → ∃ m, n ≤ m ∧ (σ m).agent = .cons

/-- F3: "if `SEQ = SLEEP`, `WAKE` eventually happens". -/
def FairWake (σ : Nat → Turn) (ρ : Nat → State) : Prop := ∀ n, (ρ n).seq = .sleep → ∃ m, n ≤ m ∧ σ m = .wake

/-- F4: "every handler run contains finitely many `LINE.arrive` events": a handler that never returns sees a last one. -/
def FiniteArrivals (σ : Nat → Turn) (ρ : Nat → State) : Prop :=
  ∀ n, (∀ m, n ≤ m → (ρ m).rpc ≠ .rIdle) → ∃ k, ∀ m, k ≤ m → ∀ b, σ m ≠ .arrive b

end Sys2Proof.Machine
end

