-- ==== Sys2Proof/Certificates/Slice0/Obligations.lean ====
section
/-! DEFINITION. The statements for the provers. `s.cfg.cap` is the spec's `C`, `s.cfg.chunkMax` its `CHUNK_MAX`. -/

open Sys2Proof Sys2Proof.Machine

/-! ### Encoding (30_encoding.md) -/

/-- Rules R91, R93, R94: decoding the bytes of a well-formed command, whatever follows them, gives the command and what follows. -/
def Obligations.DecodeOfEncodeGivesTheCommand : Prop :=
  ∀ (i : Instr) (rest : List Byte), i.WellFormed = true → decode (encode i ++ rest) = .ok (i, rest)

/-- Rules R91, R94, R95: bytes that decode are the encoding of a well-formed command followed by the rest. -/
def Obligations.DecodedBytesAreTheEncoding : Prop :=
  ∀ (bs rest : List Byte) (i : Instr), decode bs = .ok (i, rest) → i.WellFormed = true ∧ bs = encode i ++ rest

/-- Rule R95: an opcode outside the map is refused `reserved_opcode`; a `FEED` with fewer than `n` data bytes is refused
`truncated`, whether or not bytes arrive the while. That this is so in run mode too is the model's choice (log 20). -/
def Obligations.BytesThatSpellNoCommandAreRefused : Prop :=
  ∀ (s : State) (tn : Turn) (ts : List Turn), tn = .host ∨ (∃ gaps, tn = .hostDuring gaps) → s.turns = tn :: ts →
    (∀ op rest, s.port = op :: rest → (∀ row ∈ opcodeMap, row.opcode ≠ op) → step s = .refused .reservedOpcode) ∧
    (∀ hi lo data, s.port = 0x10 :: hi :: lo :: data → data.length < countOf hi lo → step s = .refused .truncated)

/-- Rule R101: the worked encodings, both ways. -/
def Obligations.WorkedEncodings : Prop :=
  encode (.trySend 0x41) = [0x01, 0x41] ∧ decode [0x01, 0x41] = .ok (.trySend 0x41, []) ∧
  encode .tryRecv = [0x02] ∧ decode [0x02] = .ok (.tryRecv, []) ∧
  encode (.feed [0x02, 0xDE, 0xAD, 0x8D]) = [0x10, 0x00, 0x04, 0x02, 0xDE, 0xAD, 0x8D] ∧
  decode [0x10, 0x00, 0x04, 0x02, 0xDE, 0xAD, 0x8D] = .ok (.feed [0x02, 0xDE, 0xAD, 0x8D], []) ∧
  encode (.feed []) = [0x10, 0x00, 0x00] ∧ decode [0x10, 0x00, 0x00] = .ok (.feed [], []) ∧
  encode .getPayload = [0x13] ∧ decode [0x13] = .ok (.getPayload, []) ∧
  respPayload [0xDE, 0xAD] = [0x00, 0x02, 0xDE, 0xAD] ∧
  encode .start = [0x30] ∧ decode [0x30] = .ok (.start, []) ∧
  decode [0x00] = .error .reservedOpcode

/-- Rule R96: the response codes. -/
def Obligations.ResponseCodes : Prop :=
  respBool false = [0x00] ∧ respBool true = [0x01] ∧ respOption none = [0x00, 0x00] ∧
  (∀ b, respOption (some b) = [0x01, b]) ∧
  (∀ p : List Byte, p.length < 65536 → ∃ hi lo, respPayload p = hi :: lo :: p ∧ countOf hi lo = p.length)

/-- Rule R37: the numeric codes of state values, and the least width that holds every cursor. -/
def Obligations.StateCodes : Prop :=
  flagCode .collecting = 0 ∧ flagCode .ready = 1 ∧ flagCode .finished = 2 ∧
  seqCode .idle = 0 ∧ seqCode .poll = 1 ∧ seqCode .sleep = 2 ∧ seqCode .feed = 3 ∧ seqCode .check = 4 ∧
  seqCode .flush = 5 ∧
  rpcCode .rIdle = 0 ∧ rpcCode .rRead = 1 ∧ rpcCode .p1 = 2 ∧ rpcCode .p2 = 3 ∧ rpcCode .p3 = 4 ∧ rpcCode .p4 = 5 ∧
  cpcCode .c1 = 0 ∧ cpcCode .c2 = 1 ∧ cpcCode .c3 = 2 ∧ cpcCode .c4 = 3 ∧ bitCode false = 0 ∧ bitCode true = 1 ∧
  (∀ f, flagCode f ≤ 2) ∧ (∀ q, seqCode q ≤ 5) ∧ (∀ r, rpcCode r ≤ 5) ∧
  respBool false = [0x00] ∧ respBool true = [0x01] ∧ respOption none = [0x00, 0x00] ∧
  (∀ b, respOption (some b) = [0x01, b]) ∧
  (∀ cap, 1 ≤ cap → 2 * cap ≤ 2 ^ cursorWidth cap ∧ ∀ w, 2 * cap ≤ 2 ^ w → cursorWidth cap ≤ w)

/-! ### A step -/

/-- When `HOST`'s turn is next and the bytes at the front of the port decode, the step is the command's meaning on the state
with the turn taken and the bytes consumed (rules R70, R99); with arrivals inside the command it is the command's meaning
with those arrivals. -/
def Obligations.StepRunsTheDecodedCommand : Prop :=
  (∀ (s : State) (ts : List Turn) (i : Instr) (rest : List Byte), s.turns = .host :: ts →
    decode s.port = .ok (i, rest) → step s = exec i { s with turns := ts, port := rest }) ∧
  (∀ (s : State) (ts : List Turn) (gaps : List (List Byte)) (i : Instr) (rest : List Byte),
    s.turns = .hostDuring gaps :: ts → decode s.port = .ok (i, rest) →
      step s = execDuring i gaps { s with turns := ts, port := rest })

/-- A step is the next turn of the schedule: one step of one agent (rules R11, R38). The model's choices here: the schedule as
a list and, when it is exhausted, a free turn (log 5), the idle turn (log 6), and that an issue turn puts its bytes on the
port unrefused in run mode too, where rules R6 and R99 have `HOST` issue in bench mode only (log 7). -/
def Obligations.StepTakesTheNextTurn : Prop :=
  ∀ (s : State) (ts : List Turn),
    (s.turns = .rxc :: ts → step s = stepRxc { s with turns := ts }) ∧
    (s.turns = .cons :: ts → step s = stepCons { s with turns := ts }) ∧
    (s.turns = .wake :: ts → step s = .next (stepWake { s with turns := ts })) ∧
    (∀ b, s.turns = .arrive b :: ts → step s = .next (lineArrive b { s with turns := ts })) ∧
    (∀ bs, s.turns = .issue bs :: ts → step s = .next { s with turns := ts, port := s.port ++ bs }) ∧
    (∀ w c op, s.turns = .call w c op :: ts → step s = stepCall w c op { s with turns := ts }) ∧
    (s.turns = .host :: ts → s.port = [] → step s = .next { s with turns := ts }) ∧
    (∀ gaps, s.turns = .hostDuring gaps :: ts → s.port = [] → step s = .next { s with turns := ts }) ∧
    (s.turns = [] → step s = takeTurn (Config.freeTurn s.tick) { s with tick := s.tick + 1 })

/-- An instruction of the opcode table's numbering, placed where the next step takes its command, is what that step runs, on
the very state it was placed in. -/
def Obligations.PlacedWordIsTheNextCommand : Prop :=
  ∀ (s : State) (nbits w : Nat) (i : Instr), decodeTableWord nbits w = some i →
    step (s.withFetchWord nbits w) = exec i s

/-! ### Reset (rules R36, R250, R252) -/

/-- Rule R36: the state after reset, with the parameters whatever they are. -/
def Obligations.ResetValues : Prop :=
  (∃ p, State.reset = State.resetWith p) ∧
  ∀ p : Params, let s := State.resetWith p
    s.head = 0 ∧ s.tail = 0 ∧ (∀ i, s.slot.read i = none) ∧ s.en = false ∧ s.rpc = .rIdle ∧ s.seq = .idle ∧
    s.cpc = .c1 ∧ s.chunk = [] ∧ s.resolving = false ∧ p.codecOf.after s.dec = p.codecOf.init ∧ s.flag = .collecting ∧
    s.out = [] ∧ s.rb = none ∧ s.ph = none ∧ s.pt = none ∧ s.ct = none ∧ s.ch = none ∧ s.cb = none ∧ s.rxAvail = [] ∧
    s.trace = []

/-- Rules R5, R252: the parameters at reset (`CHUNK_MAX` at its default `C`, `PREEMPT_MODEL` normative, log 2, and the
external codec), the ranges of the two sizes, every pair of which some parameters take, and `SLEEP_MS`; `at_reset` implies
the other launch premises; and from these follow the invariant and the flag premise the statements below assume, with the
latches in the range rule R20 gives them. Reset, with the parameters whatever they are, has all of it and the histories. -/
def Obligations.ResetMeetsTheInvariants : Prop :=
  (State.reset.cfg.chunkMax = State.reset.cfg.cap ∧ State.reset.cfg.preempt = .irqAtomic ∧
    State.reset.cfg.codec = .external ∧ Config.sleepMs = 100) ∧
  (∀ p : Params, 1 ≤ p.cap ∧ p.cap ≤ 65535 ∧ 1 ≤ p.chunkMax ∧ p.chunkMax ≤ 65535) ∧
  (∀ n m, 1 ≤ n → n ≤ 65535 → 1 ≤ m → m ≤ 65535 → ∃ p : Params, p.cap = n ∧ p.chunkMax = m) ∧
  (∀ s : State, s.AtReset → s.Launch ∧ s.LatchesInRange) ∧
  (∀ s : State, s.Launch → s.LatchesInRange → s.Inv ∧ s.FlagGuard) ∧
  ∀ p : Params, (State.resetWith p).Launch ∧ (State.resetWith p).Inv ∧ (State.resetWith p).FlagGuard ∧
    (State.resetWith p).FifoHistory ∧ (State.resetWith p).CaptureHistory ∧ (State.resetWith p).FeedHistory

/-! ### The commands: encoding, run-mode refusal, next state -/

/-- Rule R125: `TRY_SEND b`. -/
def Obligations.TrySendCommand : Prop :=
  ∀ (b : Byte) (s : State),
    (∀ rest, decode (0x01 :: b :: rest) = .ok (.trySend b, rest)) ∧
    (s.en = true → exec (.trySend b) s = .refused .runMode) ∧
    (s.en = false → cursorDist s.cfg.cap s.tail s.head = s.cfg.cap →
      exec (.trySend b) s = .next { s with
          rb := some b, ph := some s.head, pt := some s.tail,
          trace := s.trace ++ [.drop b], resp := s.resp ++ [0x00] }) ∧
    (s.en = false → cursorDist s.cfg.cap s.tail s.head ≠ s.cfg.cap →
      exec (.trySend b) s = .next { s with
          rb := some b, ph := some s.head, pt := some s.tail,
          slot := s.slot.write (s.tail % s.cfg.cap) b, tail := (s.tail + 1) % (2 * s.cfg.cap),
          trace := s.trace ++ [.enq b], resp := s.resp ++ [0x01] })

/-- Rule R131: `TRY_RECV`; the last clause is the read rule R35 makes a fault. -/
def Obligations.TryRecvCommand : Prop :=
  ∀ s : State,
    (∀ rest, decode (0x02 :: rest) = .ok (.tryRecv, rest)) ∧
    (s.en = true → exec .tryRecv s = .refused .runMode) ∧
    (s.en = false → s.head = s.tail →
      exec .tryRecv s = .next { s with ct := some s.tail, ch := some s.head, resp := s.resp ++ [0x00, 0x00] }) ∧
    (∀ v, s.en = false → s.head ≠ s.tail → s.slot.read (s.head % s.cfg.cap) = some v →
      exec .tryRecv s = .next { s with
          ct := some s.tail, ch := some s.head, cb := some v,
          head := (s.head + 1) % (2 * s.cfg.cap), trace := s.trace ++ [.deq v], resp := s.resp ++ [0x01, v] }) ∧
    (s.en = false → s.head ≠ s.tail → s.slot.read (s.head % s.cfg.cap) = none →
      exec .tryRecv s = .fault .slotUnwritten)

/-- Rules R163 to R165: `FEED bs`. -/
def Obligations.FeedCommand : Prop :=
  ∀ (bs : List Byte) (s : State),
    (∀ hi lo rest, countOf hi lo = bs.length → decode (0x10 :: hi :: lo :: (bs ++ rest)) = .ok (.feed bs, rest)) ∧
    (s.en = true → exec (.feed bs) s = .refused .runMode) ∧
    (s.en = false → bs ≠ [] → s.cfg.codecOf.flag (s.cfg.codecOf.after s.dec) = .ready →
      exec (.feed bs) s = .refused .feedWhileReady) ∧
    (s.en = false → bs = [] ∨ s.cfg.codecOf.flag (s.cfg.codecOf.after s.dec) ≠ .ready →
      exec (.feed bs) s = .next { s with dec := s.dec ++ [bs], trace := s.trace ++ [.fed bs] }) ∧
    s.cfg.codecOf.after (s.dec ++ [bs]) = s.cfg.codecOf.feed (s.cfg.codecOf.after s.dec) bs

/-- Rule R166: `IS_READY`. -/
def Obligations.IsReadyCommand : Prop :=
  ∀ s : State,
    (∀ rest, decode (0x11 :: rest) = .ok (.isReady, rest)) ∧
    (s.en = true → exec .isReady s = .refused .runMode) ∧
    (s.en = false → s.cfg.codecOf.flag (s.cfg.codecOf.after s.dec) = .ready →
      exec .isReady s = .next { s with resp := s.resp ++ [0x01] }) ∧
    (s.en = false → s.cfg.codecOf.flag (s.cfg.codecOf.after s.dec) ≠ .ready →
      exec .isReady s = .next { s with resp := s.resp ++ [0x00] })

/-- Rule R167: `IS_FINISH`. -/
def Obligations.IsFinishCommand : Prop :=
  ∀ s : State,
    (∀ rest, decode (0x12 :: rest) = .ok (.isFinish, rest)) ∧
    (s.en = true → exec .isFinish s = .refused .runMode) ∧
    (s.en = false → s.cfg.codecOf.flag (s.cfg.codecOf.after s.dec) = .finished →
      exec .isFinish s = .next { s with resp := s.resp ++ [0x01] }) ∧
    (s.en = false → s.cfg.codecOf.flag (s.cfg.codecOf.after s.dec) ≠ .finished →
      exec .isFinish s = .next { s with resp := s.resp ++ [0x00] })

/-- Rule R168: `GET_PAYLOAD`; the two bytes before the payload are its length, high byte first. -/
def Obligations.GetPayloadCommand : Prop :=
  ∀ s : State,
    (∀ rest, decode (0x13 :: rest) = .ok (.getPayload, rest)) ∧
    (s.en = true → exec .getPayload s = .refused .runMode) ∧
    (s.en = false → s.cfg.codecOf.flag (s.cfg.codecOf.after s.dec) ≠ .ready →
      exec .getPayload s = .refused .payloadNotReady) ∧
    (s.en = false → s.cfg.codecOf.flag (s.cfg.codecOf.after s.dec) = .ready →
      ∃ hi lo, countOf hi lo = (s.cfg.codecOf.payload (s.cfg.codecOf.after s.dec)).length ∧
        exec .getPayload s =
          .next { s with resp := s.resp ++ hi :: lo :: s.cfg.codecOf.payload (s.cfg.codecOf.after s.dec) })

/-- Rule R142: `RXREG_READ`. -/
def Obligations.RxregReadCommand : Prop :=
  ∀ s : State,
    (∀ rest, decode (0x21 :: rest) = .ok (.rxregRead, rest)) ∧
    (s.en = true → exec .rxregRead s = .refused .runMode) ∧
    (∀ b r, s.en = false → s.rxAvail = b :: r →
      exec .rxregRead s = .next { s with rxAvail := r, resp := s.resp ++ [0x01, b] }) ∧
    (s.en = false → s.rxAvail = [] → exec .rxregRead s = .next { s with resp := s.resp ++ [0x00, 0x00] })

/-- Rules R121, R122, R144 to R146: `RX_SERVICE` as its loop: with nothing waiting it ends with `RPC = R_IDLE`; with a byte waiting it is the same
command after that byte was read and, if there was room, stored. It always completes, with the register empty. That it
writes the latches `RB`, `PH` and `PT`, as the micro-steps do, is the model's reading of rule R146 (log 13). -/
def Obligations.RxServiceCommand : Prop :=
  ∀ s : State,
    (∀ rest, decode (0x20 :: rest) = .ok (.rxService, rest)) ∧
    (s.en = true → exec .rxService s = .refused .runMode) ∧
    (s.en = false → s.rxAvail = [] → exec .rxService s = .next { s with rpc := .rIdle }) ∧
    (∀ b r, s.en = false → s.rxAvail = b :: r → cursorDist s.cfg.cap s.tail s.head = s.cfg.cap →
      exec .rxService s = exec .rxService { s with
          rxAvail := r, rb := some b, ph := some s.head, pt := some s.tail,
          trace := s.trace ++ [.drop b] }) ∧
    (∀ b r, s.en = false → s.rxAvail = b :: r → cursorDist s.cfg.cap s.tail s.head ≠ s.cfg.cap →
      exec .rxService s = exec .rxService { s with
          rxAvail := r, rb := some b, ph := some s.head, pt := some s.tail,
          slot := s.slot.write (s.tail % s.cfg.cap) b, tail := (s.tail + 1) % (2 * s.cfg.cap),
          trace := s.trace ++ [.enq b] }) ∧
    (s.en = false → ∃ t, exec .rxService s = .next t ∧ t.rxAvail = [] ∧ t.rpc = .rIdle)

/-- Rule R191: `START`. -/
def Obligations.StartCommand : Prop :=
  ∀ s : State,
    (∀ rest, decode (0x30 :: rest) = .ok (.start, rest)) ∧
    (s.en = true → exec .start s = .refused .runMode) ∧
    (s.en = false → exec .start s = .next { s with en := true, seq := .poll })

/-- Rule R99: in run mode every command is refused. -/
def Obligations.RunModeRefusesEveryCommand : Prop :=
  ∀ (i : Instr) (s : State), s.en = true → exec i s = .refused .runMode

/-- What the commands leave unchanged when they answer a next state, command by command (rules R125, R131, R142, R146, R163,
R166 to R168, R191). -/
def Obligations.CommandFrame : Prop :=
  ∀ (i : Instr) (s t : State), exec i s = .next t →
    (t.cfg = s.cfg ∧ t.cpc = s.cpc ∧ t.chunk = s.chunk ∧ t.resolving = s.resolving ∧ t.out = s.out ∧ t.port = s.port ∧
      t.turns = s.turns ∧ t.tick = s.tick) ∧
    ((∀ b, i ≠ .trySend b) → i ≠ .rxService →
      t.slot = s.slot ∧ t.tail = s.tail ∧ t.rb = s.rb ∧ t.ph = s.ph ∧ t.pt = s.pt) ∧
    (i ≠ .tryRecv → t.head = s.head ∧ t.ct = s.ct ∧ t.ch = s.ch ∧ t.cb = s.cb) ∧
    (i ≠ .rxService → t.rpc = s.rpc) ∧
    (i ≠ .start → t.en = s.en ∧ t.seq = s.seq) ∧
    ((∀ bs, i ≠ .feed bs) → t.dec = s.dec) ∧
    (i ≠ .rxService → i ≠ .rxregRead → t.rxAvail = s.rxAvail) ∧
    (i = .rxService ∨ i = .start ∨ (∃ bs, i = .feed bs) → t.resp = s.resp) ∧
    (i = .isReady ∨ i = .isFinish ∨ i = .getPayload ∨ i = .rxregRead ∨ i = .start → t.trace = s.trace)

/-- Rules R10, R123, R125: `TRY_SEND` changes no slot but `SLOT[TAIL mod C]`, and none at all when the FIFO is full. -/
def Obligations.TrySendStoresToOneSlot : Prop :=
  ∀ (b : Byte) (s t : State), exec (.trySend b) s = .next t →
    (cursorDist s.cfg.cap s.tail s.head ≠ s.cfg.cap →
      t.slot.read (slotIndex s.cfg.cap s.tail) = some b ∧
      ∀ i, i ≠ slotIndex s.cfg.cap s.tail → t.slot.read i = s.slot.read i) ∧
    (cursorDist s.cfg.cap s.tail s.head = s.cfg.cap → ∀ i, t.slot.read i = s.slot.read i)

/-- Rule R169: the three observers change nothing but the response stream, and asked again they answer the same. -/
def Obligations.ObserversAreIdempotent : Prop :=
  ∀ (i : Instr) (s t : State), i = .isReady ∨ i = .isFinish ∨ i = .getPayload → exec i s = .next t →
    ∃ bs, t = { s with resp := s.resp ++ bs } ∧ exec i t = .next { t with resp := t.resp ++ bs }

/-- Rules R99, R141: for a command other than the two that read the receive register, a byte that arrives before it is one
that arrives after it; only the ghost history lists the two events in the other order. -/
def Obligations.ArrivalCommutesWithCommands : Prop :=
  ∀ (i : Instr) (b : Byte) (s t : State), i ≠ .rxService → i ≠ .rxregRead → exec i s = .next t →
    ∃ t', exec i (lineArrive b s) = .next t' ∧ { t' with trace := [] } = { lineArrive b t with trace := [] }

/-- Rules R99, R146: a command inside which nothing arrives is the command; what arrives inside one "touches only `RXAVAIL`": for every command but `RX_SERVICE` the next state is
the command's with those bytes at the end of `RXAVAIL`, and the ghost has them among the command's own events. A command
that is refused or faults does so whatever arrives. -/
def Obligations.ArrivalsInsideACommand : Prop :=
  ∀ (i : Instr) (gaps : List (List Byte)) (s : State),
    execDuring i [] s = exec i s ∧
    (∀ t, i ≠ .rxService → exec i s = .next t →
      ∃ t' inside, execDuring i gaps s = .next t' ∧ inside <+: gaps.flatten ∧
        { t' with trace := [] } = { t with rxAvail := t.rxAvail ++ inside, trace := [] } ∧
        arrivedOf t'.trace = arrivedOf t.trace ++ inside ∧ othersOf t'.trace = othersOf t.trace) ∧
    (∀ r, exec i s = .refused r → execDuring i gaps s = .refused r) ∧
    (∀ f, exec i s = .fault f → execDuring i gaps s = .fault f)

/-! ### The FIFO as a queue -/

/-- Rules R24, R125, R131: in states that meet the invariant, `TRY_SEND` with room adds its byte at the end of the bytes held,
`TRY_SEND` when full changes none of them, and `TRY_RECV` answers and removes the oldest. -/
def Obligations.FifoIsABoundedQueue : Prop :=
  ∀ s : State, s.Inv → s.en = false →
    (∀ b, s.held.length < s.cfg.cap →
      ∃ t, exec (.trySend b) s = .next t ∧ t.held = s.held ++ [some b] ∧ t.resp = s.resp ++ [0x01]) ∧
    (∀ b, s.held.length = s.cfg.cap →
      ∃ t, exec (.trySend b) s = .next t ∧ t.held = s.held ∧ t.resp = s.resp ++ [0x00]) ∧
    (s.held = [] → ∃ t, exec .tryRecv s = .next t ∧ t.held = [] ∧ t.resp = s.resp ++ [0x00, 0x00]) ∧
    (∀ o os, s.held = o :: os →
      ∃ v t, o = some v ∧ exec .tryRecv s = .next t ∧ t.held = os ∧ t.resp = s.resp ++ [0x01, v])

/-- Rules R122, R146: `RX_SERVICE` stores the bytes waiting, in order, as far as there is room, and drops the rest; no slot
changes but those at `TAIL` and above that it stores to. Rules R99, R144: with bytes arriving inside it, it ends with the
register empty, having served in order the bytes that waited and then those that arrived inside; what arrives before its
first read is always inside. -/
def Obligations.RxServiceStoresUpToCapacity : Prop :=
  ∀ s : State, s.Inv → s.en = false →
    (∃ t, exec .rxService s = .next t ∧ t.rxAvail = [] ∧ t.rpc = .rIdle ∧ t.head = s.head ∧
      t.held = (s.held ++ s.rxAvail.map some).take s.cfg.cap ∧
      t.trace = s.trace ++ (s.rxAvail.take (s.cfg.cap - s.occ)).map Event.enq ++
        (s.rxAvail.drop (s.cfg.cap - s.occ)).map Event.drop ∧
      ∀ i, (∀ k, k < s.rxAvail.length → k < s.cfg.cap - s.occ → i ≠ slotIndex s.cfg.cap (s.tail + k)) →
        t.slot.read i = s.slot.read i) ∧
    (∀ gaps : List (List Byte), ∃ t inside, execDuring .rxService gaps s = .next t ∧ gaps.headD [] <+: inside ∧
      inside <+: gaps.flatten ∧ t.rxAvail = [] ∧ t.rpc = .rIdle ∧ t.head = s.head ∧
      t.held = (s.held ++ (s.rxAvail ++ inside).map some).take s.cfg.cap ∧
      arrivedOf t.trace = arrivedOf s.trace ++ inside ∧ sentOf t.trace = sentOf s.trace ++ (s.rxAvail ++ inside))

/-- Rules R125, R267: `TRY_SEND` is the handler's micro-steps in a row: `P1`, `P2` when full, `P1` to `P4` when it stores. -/
def Obligations.TrySendIsItsMicroSteps : Prop :=
  ∀ (b : Byte) (s : State), s.en = false → s.rpc = .rIdle →
    (cursorDist s.cfg.cap s.tail s.head = s.cfg.cap →
      ∃ t, exec (.trySend b) s = .next t ∧
        iterate stepRxc 2 { s with en := true, rpc := .p1, rb := some b } =
          .next { t with en := true, rpc := .rRead, resp := s.resp }) ∧
    (cursorDist s.cfg.cap s.tail s.head ≠ s.cfg.cap →
      ∃ t, exec (.trySend b) s = .next t ∧
        iterate stepRxc 4 { s with en := true, rpc := .p1, rb := some b } =
          .next { t with en := true, rpc := .rRead, resp := s.resp })

/-- Rules R131, R193, R194, R267: `TRY_RECV` is the consumer's micro-steps in a row: `C1`, `C2` when empty, `C1` to `C4` when
it returns a byte, less what `POLL` does with the result. -/
def Obligations.TryRecvIsItsMicroSteps : Prop :=
  ∀ s : State, s.en = false → s.rpc = .rIdle → s.cpc = .c1 →
    (s.head = s.tail →
      ∃ t, exec .tryRecv s = .next t ∧
        iterate stepCons 2 { s with en := true, seq := .poll } =
          .next { t with en := true, seq := if s.chunk = [] then .sleep else .feed, resp := s.resp }) ∧
    (∀ v, s.head ≠ s.tail → s.slot.read (s.head % s.cfg.cap) = some v →
      ∃ t, exec .tryRecv s = .next t ∧
        iterate stepCons 4 { s with en := true, seq := .poll } =
          .next { t with en := true, seq := if s.chunk.length + 1 = s.cfg.chunkMax then .feed else .poll,
                         chunk := s.chunk ++ [v], resp := s.resp })

/-! ### The agents' steps -/

/-- Rules R121 to R124, R145: the producer's micro-steps in run mode; both exits return to `R_READ`. Rule R35: a read of a latch that holds no value is a fault, "not a zero". -/
def Obligations.ProducerMicroSteps : Prop :=
  ∀ s : State, s.en = true →
    (s.rpc = .p1 → stepRxc s = .next { s with ph := some s.head, rpc := .p2 }) ∧
    (∀ ph b, s.rpc = .p2 → s.ph = some ph → s.rb = some b → cursorDist s.cfg.cap s.tail ph = s.cfg.cap →
      stepRxc s = .next { s with pt := some s.tail, trace := s.trace ++ [.drop b], rpc := .rRead }) ∧
    (∀ ph, s.rpc = .p2 → s.ph = some ph → cursorDist s.cfg.cap s.tail ph ≠ s.cfg.cap →
      stepRxc s = .next { s with pt := some s.tail, rpc := .p3 }) ∧
    (∀ pt b, s.rpc = .p3 → s.pt = some pt → s.rb = some b →
      stepRxc s = .next { s with slot := s.slot.write (pt % s.cfg.cap) b, rpc := .p4 }) ∧
    (∀ pt b, s.rpc = .p4 → s.pt = some pt → s.rb = some b →
      stepRxc s = .next { s with tail := (pt + 1) % (2 * s.cfg.cap), trace := s.trace ++ [.enq b], rpc := .rRead }) ∧
    (s.rpc = .p2 → s.ph = none → stepRxc s = .fault (.latchUnwritten .ph)) ∧
    (s.rpc = .p3 → s.pt = none → stepRxc s = .fault (.latchUnwritten .pt)) ∧
    (∀ pt, s.rpc = .p3 → s.pt = some pt → s.rb = none → stepRxc s = .fault (.latchUnwritten .rb)) ∧
    (s.rpc = .p4 → s.pt = none → stepRxc s = .fault (.latchUnwritten .pt))

/-- Rules R127 to R130, R192 to R194: the consumer's micro-steps in run mode, with what `POLL` does at completion. Rule R35: a
read of a latch or a slot that holds no value is a fault. -/
def Obligations.ConsumerMicroSteps : Prop :=
  ∀ s : State, s.en = true → s.seq = .poll → s.cfg.preempt = .freeInterleave ∨ s.rpc = .rIdle →
    (s.cpc = .c1 → stepCons s = .next { s with ct := some s.tail, cpc := .c2 }) ∧
    (s.cpc = .c2 → s.ct = some s.head → s.chunk = [] →
      stepCons s = .next { s with ch := some s.head, cpc := .c1, seq := .sleep }) ∧
    (s.cpc = .c2 → s.ct = some s.head → s.chunk ≠ [] →
      stepCons s = .next { s with ch := some s.head, cpc := .c1, seq := .feed }) ∧
    (∀ ct, s.cpc = .c2 → s.ct = some ct → s.head ≠ ct → stepCons s = .next { s with ch := some s.head, cpc := .c3 }) ∧
    (∀ ch b, s.cpc = .c3 → s.ch = some ch → s.slot.read (ch % s.cfg.cap) = some b →
      stepCons s = .next { s with cb := some b, cpc := .c4 }) ∧
    (∀ ch b, s.cpc = .c4 → s.ch = some ch → s.cb = some b → s.chunk.length + 1 = s.cfg.chunkMax →
      stepCons s = .next { s with
          head := (ch + 1) % (2 * s.cfg.cap), trace := s.trace ++ [.deq b],
          chunk := s.chunk ++ [b], cpc := .c1, seq := .feed }) ∧
    (∀ ch b, s.cpc = .c4 → s.ch = some ch → s.cb = some b → s.chunk.length + 1 ≠ s.cfg.chunkMax →
      stepCons s = .next { s with
          head := (ch + 1) % (2 * s.cfg.cap), trace := s.trace ++ [.deq b],
          chunk := s.chunk ++ [b], cpc := .c1, seq := .poll }) ∧
    (s.cpc = .c2 → s.ct = none → stepCons s = .fault (.latchUnwritten .ct)) ∧
    (s.cpc = .c3 → s.ch = none → stepCons s = .fault (.latchUnwritten .ch)) ∧
    (∀ ch, s.cpc = .c3 → s.ch = some ch → s.slot.read (ch % s.cfg.cap) = none → stepCons s = .fault .slotUnwritten) ∧
    (s.cpc = .c4 → s.ch = none → stepCons s = .fault (.latchUnwritten .ch)) ∧
    (∀ ch, s.cpc = .c4 → s.ch = some ch → s.cb = none → stepCons s = .fault (.latchUnwritten .cb))

/-- Rules R141, R143, R144, R224, R225: arrival (after which the interrupt is pending if `EN = 1` and the handler is idle),
interrupt entry, one turn of the read loop, interrupt return. -/
def Obligations.CaptureSteps : Prop :=
  ∀ s : State,
    (∀ b, takeTurn (.arrive b) s = .next { s with rxAvail := s.rxAvail ++ [b], trace := s.trace ++ [.arrive b] }) ∧
    (∀ b, s.en = true → s.rpc = .rIdle → (lineArrive b s).rxPending = true) ∧
    (s.en = true → s.rpc = .rIdle → s.rxAvail ≠ [] → stepRxc s = .next { s with rpc := .rRead }) ∧
    (∀ b r, s.en = true → s.rpc = .rRead → s.rxAvail = b :: r →
      stepRxc s = .next { s with rxAvail := r, rb := some b, rpc := .p1 }) ∧
    (s.en = true → s.rpc = .rRead → s.rxAvail = [] → stepRxc s = .next { s with rpc := .rIdle })

/-- Rules R25, R33, R143, R223, R224: the interrupt is pending exactly when `EN = 1`, a byte waits and the handler is idle;
exactly then the handler is entered, and entry changes nothing but `RPC`. -/
def Obligations.HandlerEnteredExactlyWhenPending : Prop :=
  ∀ s : State,
    (s.rxPending = true ↔ s.en = true ∧ s.rxAvail ≠ [] ∧ s.rpc = .rIdle) ∧
    (s.rpc = .rIdle → ((∃ t, stepRxc s = .next t ∧ t.rpc ≠ .rIdle) ↔ s.rxPending = true)) ∧
    (s.rxPending = true → stepRxc s = .next { s with rpc := .rRead })

/-- Rule R196: the `FEED` step, and its refusal in the one case rule R203 leaves. -/
def Obligations.FeedStep : Prop :=
  ∀ s : State, s.en = true → s.seq = .feed → s.cfg.preempt = .freeInterleave ∨ s.rpc = .rIdle →
    (s.chunk = [] ∨ s.flag ≠ .ready →
      stepCons s = .next { s with
          dec := s.dec ++ [s.chunk], trace := s.trace ++ [.fed s.chunk], chunk := [],
          seq := .check }) ∧
    (s.chunk ≠ [] → s.flag = .ready → stepCons s = .refused .feedWhileReady)

/-- Rule R197: the `CHECK` step, every flag value. -/
def Obligations.CheckStep : Prop :=
  ∀ s : State, s.en = true → s.seq = .check → s.cfg.preempt = .freeInterleave ∨ s.rpc = .rIdle →
    (s.cfg.codecOf.flag (s.cfg.codecOf.after s.dec) = .ready →
      stepCons s = .next { s with
          out := s.out ++ [s.cfg.codecOf.payload (s.cfg.codecOf.after s.dec)],
          trace := s.trace ++ [.out (s.cfg.codecOf.payload (s.cfg.codecOf.after s.dec))], resolving := true,
          seq := .flush }) ∧
    (s.cfg.codecOf.flag (s.cfg.codecOf.after s.dec) = .finished →
      stepCons s = .next { s with resolving := false, seq := .poll }) ∧
    (s.cfg.codecOf.flag (s.cfg.codecOf.after s.dec) = .collecting → s.resolving = true →
      stepCons s = .next { s with seq := .flush }) ∧
    (s.cfg.codecOf.flag (s.cfg.codecOf.after s.dec) = .collecting → s.resolving = false →
      stepCons s = .next { s with seq := .poll })

/-- Rule R198: the `FLUSH` step. -/
def Obligations.FlushStep : Prop :=
  ∀ s : State, s.en = true → s.seq = .flush → s.cfg.preempt = .freeInterleave ∨ s.rpc = .rIdle →
    stepCons s = .next { s with dec := s.dec ++ [[]], trace := s.trace ++ [.fed []], seq := .check } ∧
    s.cfg.codecOf.after (s.dec ++ [[]]) = s.cfg.codecOf.feed (s.cfg.codecOf.after s.dec) []

/-- Rules R25, R66, R195, R202: when `CONS` has no enabled step, and what `WAKE` does, whatever `RPC` is. That a turn of an
agent with no enabled step changes nothing is the model's choice (log 6). -/
def Obligations.ConsumerGating : Prop :=
  ∀ s : State,
    (s.cfg.preempt = .irqAtomic → s.rpc ≠ .rIdle → stepCons s = .next s) ∧
    (s.en = false → stepCons s = .next s ∧ stepRxc s = .next s) ∧
    (s.seq = .sleep → stepCons s = .next s) ∧
    (s.seq = .sleep → takeTurn .wake s = .next { s with seq := .poll }) ∧
    (s.seq ≠ .sleep → takeTurn .wake s = .next s)

/-- Rule R229: a use of an operation from a context its table does not allow is refused, `role`, and rule
R135: so is every call by a second caller beside the context's own agent. The call turn is the model's
choice, and so is the refusal of taking a lock in the TASK context, where the table says "not in this path" (log 11). -/
def Obligations.CallOutsideTheTableIsRefused : Prop :=
  (∀ op, permits .irq op = true ↔ op = .rxRead ∨ op = .trySend) ∧
  (∀ op, permits .task op = true ↔ op = .tryRecv ∨ op = .feed ∨ op = .isReady ∨ op = .isFinish ∨ op = .getPayload ∨
    op = .emit ∨ op = .suspend) ∧
  (∀ (s : State) (c : Context) (op : CtxOp), permits c op = false → takeTurn (.call .own c op) s = .refused .role) ∧
  (∀ (s : State) (c : Context) (op : CtxOp), takeTurn (.call .second c op) s = .refused .role)

/-- Rules R135, R147, R229: a call of an operation by the agent of the context that owns it is that agent's one enabled step
exactly where that step performs the operation, and anywhere else refused `role`; and whatever either agent
does by a step (interrupt entry aside, which performs no operation) it does by an operation its context owns. The call turn,
which operations a step performs, and the refusal of any other call are the model's choice (log 11). -/
def Obligations.AgentsKeepToTheirContext : Prop :=
  ∀ s : State,
    takeTurn (.call .own .irq .rxRead) s = (if s.en = true ∧ s.rpc = .rRead then stepRxc s else .refused .role) ∧
    takeTurn (.call .own .irq .trySend) s =
      (if s.en = true ∧ (s.rpc = .p1 ∨ s.rpc = .p2 ∨ s.rpc = .p3 ∨ s.rpc = .p4) then stepRxc s else .refused .role) ∧
    takeTurn (.call .own .task .tryRecv) s = (if s.consGate = true ∧ s.seq = .poll then stepCons s else .refused .role) ∧
    takeTurn (.call .own .task .suspend) s =
      (if s.consGate = true ∧ s.seq = .poll ∧ s.cpc = .c2 ∧ s.ct = some s.head ∧ s.chunk = [] then stepCons s
        else .refused .role) ∧
    takeTurn (.call .own .task .feed) s =
      (if s.consGate = true ∧ (s.seq = .feed ∨ s.seq = .flush) then stepCons s else .refused .role) ∧
    takeTurn (.call .own .task .isReady) s = (if s.consGate = true ∧ s.seq = .check then stepCons s else .refused .role) ∧
    takeTurn (.call .own .task .isFinish) s = (if s.consGate = true ∧ s.seq = .check then stepCons s else .refused .role) ∧
    takeTurn (.call .own .task .getPayload) s =
      (if s.consGate = true ∧ s.seq = .check ∧ s.flag = .ready then stepCons s else .refused .role) ∧
    takeTurn (.call .own .task .emit) s =
      (if s.consGate = true ∧ s.seq = .check ∧ s.flag = .ready then stepCons s else .refused .role) ∧
    (∀ t, stepRxc s = .next t → t ≠ s → s.rpc ≠ .rIdle →
      ∃ op, permits .irq op = true ∧ takeTurn (.call .own .irq op) s = .next t) ∧
    (∀ t, stepCons s = .next t → t ≠ s → ∃ op, permits .task op = true ∧ takeTurn (.call .own .task op) s = .next t)

/-! ### Whole-machine rules -/

/-- Rules R71, R147, R175: who writes what. A step of `RXC` leaves the consumer's elements alone, a step of `CONS` the
producer's, an arrival all but `RXAVAIL`, and a wake all but `SEQ` (the ghost `TRACE` aside). -/
def Obligations.SingleWriter : Prop :=
  ∀ s t : State,
    (stepRxc s = .next t → t.head = s.head ∧ t.ct = s.ct ∧ t.ch = s.ch ∧ t.cb = s.cb ∧ t.cpc = s.cpc ∧ t.seq = s.seq ∧
      t.chunk = s.chunk ∧ t.resolving = s.resolving ∧ t.dec = s.dec ∧ t.out = s.out ∧ t.en = s.en ∧ t.cfg = s.cfg ∧
      t.port = s.port ∧ t.resp = s.resp ∧ t.turns = s.turns ∧ t.tick = s.tick) ∧
    (stepCons s = .next t → t.slot = s.slot ∧ t.tail = s.tail ∧ t.rb = s.rb ∧ t.ph = s.ph ∧ t.pt = s.pt ∧
      t.rpc = s.rpc ∧ t.rxAvail = s.rxAvail ∧ t.en = s.en ∧ t.cfg = s.cfg ∧ t.port = s.port ∧ t.resp = s.resp ∧
      t.turns = s.turns ∧ t.tick = s.tick) ∧
    (∀ b, takeTurn (.arrive b) s = .next t → t = { s with rxAvail := t.rxAvail, trace := t.trace }) ∧
    (takeTurn .wake s = .next t → t = { s with seq := t.seq })

/-- Rules R25, R38, R200: no step clears `EN`, brings `SEQ` back to `IDLE` in run mode, or changes a parameter. -/
def Obligations.RunModeIsForGood : Prop :=
  ∀ s t : State, step s = .next t →
    t.cfg = s.cfg ∧ (s.en = true → t.en = true ∧ (s.seq ≠ .idle → t.seq ≠ .idle))

/-- Rule R195: in run mode nothing but `WAKE` ends the sleep. -/
def Obligations.OnlyWakeEndsTheSleep : Prop :=
  ∀ s t : State, s.en = true → s.seq = .sleep → step s = .next t → (nextTurn s).1 ≠ .wake → t.seq = .sleep

/-- Rules R30, R163, R174: nothing but a feed changes `DEC`, and a feed is on record. -/
def Obligations.DecoderChangesOnlyByFeed : Prop :=
  ∀ s t : State, step s = .next t →
    t.dec = s.dec ∨ ∃ bs, t.dec = s.dec ++ [bs] ∧ t.trace = s.trace ++ [.fed bs]

/-- Rules R31, R197: `OUT` grows only by a `CHECK` that sees `ready`, and by its payload. -/
def Obligations.OutGrowsOnlyAtCheck : Prop :=
  ∀ s t : State, step s = .next t →
    t.out = s.out ∨
    (s.en = true ∧ s.seq = .check ∧ s.flag = .ready ∧ t.out = s.out ++ [s.payload] ∧
      t.trace = s.trace ++ [.out s.payload])

/-- Rules R122, R133, R148: in run mode a byte is lost only at `P2`, by a full test on the copy `PH`; under `irq_atomic`, in
states that meet the invariant, only when the FIFO is full. -/
def Obligations.ByteLostOnlyWhenFull : Prop :=
  ∀ (s t : State) (b : Byte), s.en = true → step s = .next t → t.trace = s.trace ++ [.drop b] →
    s.rpc = .p2 ∧ s.rb = some b ∧ (∃ ph, s.ph = some ph ∧ cursorDist s.cfg.cap s.tail ph = s.cfg.cap) ∧
    t.slot = s.slot ∧ t.head = s.head ∧ t.tail = s.tail ∧
    (s.Inv → s.cfg.preempt = .irqAtomic → s.occ = s.cfg.cap)

/-- Rule R134 (a), (b): the byte `C3` reads is the oldest held, and the store of `P3` changes no byte held. -/
def Obligations.SlotAccessesDoNotRace : Prop :=
  ∀ s : State, s.Inv →
    (s.consGate = true → s.seq = .poll → s.cpc = .c3 →
      ∃ b t, stepCons s = .next t ∧ t.cb = some b ∧ s.held.head? = some (some b) ∧ t.held = s.held) ∧
    (s.en = true → s.rpc = .p3 → ∃ t, stepRxc s = .next t ∧ t.held = s.held) ∧
    (∀ b, s.en = true → s.rpc = .p4 → s.rb = some b → ∃ t, stepRxc s = .next t ∧ t.held = s.held ++ [some b]) ∧
    (∀ b, s.consGate = true → s.seq = .poll → s.cpc = .c4 → s.cb = some b →
      ∃ t, stepCons s = .next t ∧ s.held = some b :: t.held ∧ t.chunk = s.chunk ++ [b])

/-- Rule R170 (KC2) and rules R161, R180 (KC1): every codec the parameters can select shows `collecting` when created and
bounds the payload of a ready state by `C`. For the external codec and a script this is by the model's construction (logs 3
and 4); for `REFCODEC` it is a fact. -/
def Obligations.CodecsMeetInitialFlagAndPayloadBound : Prop :=
  ∀ p : Params, p.codecOf.InitialFlagCollecting ∧ p.codecOf.PayloadBounded p.cap

/-- Rule R170 through the block: every payload on `OUT` has at most `C` bytes, kept by every step. -/
def Obligations.EmittedPayloadsStayBounded : Prop :=
  ∀ s t : State, (∀ p ∈ s.out, p.length ≤ s.cfg.cap) → step s = .next t → ∀ p ∈ t.out, p.length ≤ t.cfg.cap

/-- Rule R269: in a quiescent state of run mode neither `RXC` nor `CONS` has an enabled step, and a wake leads through one
`try_recv` with `none` back to the same state, the latches of that `try_recv` aside. -/
def Obligations.QuiescentStateOnlyWakes : Prop :=
  ∀ s : State, s.en = true → s.Quiescent →
    stepRxc s = .next s ∧ stepCons s = .next s ∧
    iterate stepCons 2 (stepWake s) = .next { s with ct := some s.tail, ch := some s.head }

/-! ### Headline results -/

/-- Rules R24, R27 to R29, R134: every step keeps the invariant of the block, in both settings of `PREEMPT_MODEL`, from every
state that meets it. -/
def Obligations.StepKeepsInvariant : Prop :=
  ∀ s t : State, s.Inv → step s = .next t → t.Inv

/-- Rule R35: from a state that meets the invariant no step reads an element before it was written. -/
def Obligations.NoReadBeforeWrite : Prop :=
  ∀ s : State, s.Inv → ∀ f, step s ≠ .fault f

/-- Rule R133 (a): in both modes and both settings, what was enqueued stays what was dequeued followed by what is held, in
order: nothing stored is lost, duplicated or reordered. -/
def Obligations.FifoOrderKept : Prop :=
  ∀ s t : State, s.Inv → s.FifoHistory → step s = .next t → t.FifoHistory

/-- Rules R72, R133: in run mode every byte that arrived is, in arrival order, sent or dropped, in the handler's hands, or in
the receive register; and every byte dequeued was fed, in order, or waits in `CHUNK`. -/
def Obligations.ArrivalOrderKeptThroughTheBlock : Prop :=
  ∀ s t : State, s.Inv → s.en = true → step s = .next t →
    (s.CaptureHistory → t.CaptureHistory) ∧ (s.FeedHistory → t.FeedHistory)

/-- Rule R203: in run mode, with `FLAG != ready` where the next feed would meet it, no turn of the block's own agents is
refused, and the premise is kept. -/
def Obligations.RunModeNeverRefuses : Prop :=
  ∀ s : State, s.Inv → s.en = true → s.FlagGuard → ownTurn (nextTurn s).1 = true →
    (∀ r, step s ≠ .refused r) ∧ ∀ t, step s = .next t → t.FlagGuard

/-! ### Runs: from launch to the end of a resolve -/

/-- Rules R203, R252, R257: from a state that meets the launch premises, `START` and then any turns of the block's own agents
and the environment run without a fault or a refusal, and keep the invariant. -/
def Obligations.RunFromLaunchNeverStops : Prop :=
  ∀ s : State, s.Launch → s.LatchesInRange → ∀ ts : List Turn, (∀ tn ∈ ts, ownTurn tn = true) →
    ∃ t u, exec .start s = .next t ∧ runTurns ts t = .next u ∧ u.Inv ∧ u.FlagGuard ∧ u.en = true

/-- Rule R268, in every execution without a refusal or a fault. F1 and F4: from every point of run mode the handler comes to
idle with the register empty. F2: while the gate stays open, a feed of either kind leads to `CHECK`, and a `CHECK` to `FLUSH`
or `POLL`. F3: every sleep ends in `POLL`. -/
def Obligations.FairSchedulesMakeProgress : Prop :=
  ∀ (σ : Nat → Turn) (ρ : Nat → State), IsRun σ ρ →
    ((ρ 0).en = true → FairRxc σ ρ → FiniteArrivals σ ρ →
      ∀ n, ∃ m, n ≤ m ∧ (ρ m).rpc = .rIdle ∧ (ρ m).rxAvail = []) ∧
    (FairCons σ ρ → ∀ n, (∀ m, n ≤ m → (ρ m).consGate = true) →
      ((ρ n).seq = .feed ∨ (ρ n).seq = .flush → ∃ m, n ≤ m ∧ (ρ m).seq = .check) ∧
      ((ρ n).seq = .check → ∃ m, n ≤ m ∧ ((ρ m).seq = .flush ∨ (ρ m).seq = .poll))) ∧
    (FairWake σ ρ → ∀ n, (ρ n).seq = .sleep → ∃ m, n ≤ m ∧ (ρ m).seq = .poll)

/-- Rules R146, R149, R267: one handler run with `k` bytes waiting and none arriving takes at most `5k + 2` steps of `RXC`,
ends with the handler idle and the register empty, and leaves in the FIFO what was held followed by the bytes waiting, cut
at `C`. -/
def Obligations.HandlerRunIsBounded : Prop :=
  ∀ s : State, s.Inv → s.rxPending = true →
    ∃ n t, n ≤ 5 * s.rxAvail.length + 2 ∧ iterate stepRxc n s = .next t ∧ t.rpc = .rIdle ∧ t.rxAvail = [] ∧
      t.held = (s.held ++ s.rxAvail.map some).take s.cfg.cap

/-- Rule R201: under KC3 the consumer, once it sees `ready` at a `CHECK`, reaches `POLL` with the frame resolved after
finitely many of its own steps. -/
def Obligations.ResolveLoopEnds : Prop :=
  ∀ s : State, s.consGate = true → s.seq = .check → s.flag = .ready → s.cfg.codecOf.ReachesFinished →
    ∃ n t, iterate stepCons n s = .next t ∧ t.seq = .poll ∧ t.resolving = false ∧ t.flag = .finished ∧
      ∃ more, t.out = s.out ++ s.payload :: more

/-- Rule R180: `REFCODEC` meets KC1, KC2, KC3 and, for payloads its one length byte and its accumulator can hold, KC5. It is
a fact about the test-only codec: that the contract can be met, nothing about the hardware (log 18 for the bound). What
KC5 means by nothing pending and by a completed frame is the model's reading (log 21). -/
def Obligations.RefCodecMeetsTheContract : Prop :=
  ∀ cap h m : Nat, m + 2 ≤ cap → m ≤ 255 →
    (refCodec cap).InitialFlagCollecting ∧ (refCodec cap).PayloadBounded cap ∧ (refCodec cap).ReachesFinished ∧
      (refCodec cap).Reassembles h m
end

