-- ==== Sys2Proof/Laws/Cursor.lean ====
section
/-! SUPPORT. Cursor arithmetic modulo `2C` (rules R8, R24, R132). -/

namespace Sys2Proof.Machine

/-- `1 <= C <= 65535` (rule R5). -/
@[simp] theorem cap_pos (p : Params) : 0 < p.cap := Nat.succ_pos _

theorem cap_lt (p : Params) : p.cap < 65536 := Nat.succ_lt_succ p.capPred.isLt

/-- `1 <= CHUNK_MAX <= 65535` (rule R5). -/
@[simp] theorem chunkMax_pos (p : Params) : 0 < p.chunkMax := Nat.succ_pos _

theorem chunkMax_lt (p : Params) : p.chunkMax < 65536 := Nat.succ_lt_succ p.chunkMaxPred.isLt

/-- A slot index is in the array: "an out-of-range index cannot be formed" (rule R62). -/
theorem slotIndex_lt {cap : Nat} (h : 0 < cap) (c : Nat) : slotIndex cap c < cap := Nat.mod_lt _ h

theorem cursorInc_lt {cap : Nat} (h : 0 < cap) (c : Nat) : cursorInc cap c < 2 * cap := Nat.mod_lt _ (by omega)

theorem cursorDist_lt {cap : Nat} (h : 0 < cap) (a b : Nat) : cursorDist cap a b < 2 * cap := Nat.mod_lt _ (by omega)

/-- Rule R8's reading of `(a - b) mod 2C` for two cursors. -/
theorem cursorDist_eq {cap a b : Nat} (ha : a < 2 * cap) (hb : b < 2 * cap) :
    cursorDist cap a b = if b ≤ a then a - b else a + 2 * cap - b := by
  unfold cursorDist
  rw [Nat.mod_eq_of_lt hb]
  split
  · rw [show a + (2 * cap - b) = (a - b) + 2 * cap by omega, Nat.add_mod_right, Nat.mod_eq_of_lt (by omega)]
  · rw [Nat.mod_eq_of_lt (by omega)]
    omega

theorem cursorInc_eq {cap c : Nat} (hc : c < 2 * cap) : cursorInc cap c = if c + 1 = 2 * cap then 0 else c + 1 := by
  unfold cursorInc
  split
  · rename_i h
    rw [h, Nat.mod_self]
  · exact Nat.mod_eq_of_lt (by omega)

/-- Equal cursors and only they have distance 0: empty is `HEAD = TAIL` (rule R24). -/
theorem cursorDist_eq_zero {cap a b : Nat} (ha : a < 2 * cap) (hb : b < 2 * cap) : cursorDist cap a b = 0 ↔ a = b := by
  rw [cursorDist_eq ha hb]
  split <;> omega

/-- A publish raises the distance by one. -/
theorem cursorDist_inc_left {cap a b : Nat} (ha : a < 2 * cap) (hb : b < 2 * cap) (h : cursorDist cap a b + 1 < 2 * cap) :
    cursorDist cap (cursorInc cap a) b = cursorDist cap a b + 1 := by
  have hi : cursorInc cap a < 2 * cap := cursorInc_lt (by omega) a
  rw [cursorDist_eq hi hb]
  rw [cursorDist_eq ha hb] at h ⊢
  rw [cursorInc_eq ha] at hi ⊢
  split at h <;> split <;> split <;> omega

/-- A release lowers the distance by one. -/
theorem cursorDist_inc_right {cap a b : Nat} (ha : a < 2 * cap) (hb : b < 2 * cap) (h : a ≠ b) :
    cursorDist cap a (cursorInc cap b) + 1 = cursorDist cap a b := by
  have hi : cursorInc cap b < 2 * cap := cursorInc_lt (by omega) b
  rw [cursorDist_eq ha hi, cursorDist_eq ha hb]
  rw [cursorInc_eq hb] at hi ⊢
  split <;> split <;> split <;> omega

/-- A cursor is the other one moved on by their distance. -/
theorem cursor_eq_add_dist {cap a b : Nat} (ha : a < 2 * cap) (hb : b < 2 * cap) :
    a = (b + cursorDist cap a b) % (2 * cap) := by
  rw [cursorDist_eq ha hb]
  split
  · rw [show b + (a - b) = a by omega, Nat.mod_eq_of_lt ha]
  · rw [show b + (a + 2 * cap - b) = a + 2 * cap by omega, Nat.add_mod_right, Nat.mod_eq_of_lt ha]

/-- Cursors `c` and `c mod 2C` name the same slot (rule R132). -/
theorem mod_two_mul_mod (cap c : Nat) : c % (2 * cap) % cap = c % cap :=
  Nat.mod_mod_of_dvd c (Nat.dvd_mul_left cap 2)

/-- The slot of the write cursor is the slot after the occupied range. -/
theorem slotIndex_tail {cap a b : Nat} (ha : a < 2 * cap) (hb : b < 2 * cap) :
    slotIndex cap a = (b + cursorDist cap a b) % cap := by
  conv_lhs => rw [cursor_eq_add_dist ha hb]
  exact mod_two_mul_mod cap _

/-- Two offsets below `C` from one cursor name different slots. -/
theorem slot_offset_ne {cap b j k : Nat} (hj : j < cap) (hk : k < cap) (h : j ≠ k) : (b + j) % cap ≠ (b + k) % cap := by
  intro he
  exact h (by simpa [Nat.ModEq, Nat.mod_eq_of_lt hj, Nat.mod_eq_of_lt hk] using Nat.ModEq.add_left_cancel' b he)

end Sys2Proof.Machine
end

