-- ==== Sys2Proof/Laws/State.lean ====
section
/-! SUPPORT. Every named update of the state, field by field: what it writes and that it leaves the rest. True by rfl. -/

namespace Sys2Proof.Machine

variable (s : State)

@[simp] theorem State.record_cfg (e : Event) : (s.record e).cfg = s.cfg := rfl
@[simp] theorem State.record_slot (e : Event) : (s.record e).slot = s.slot := rfl
@[simp] theorem State.record_head (e : Event) : (s.record e).head = s.head := rfl
@[simp] theorem State.record_tail (e : Event) : (s.record e).tail = s.tail := rfl
@[simp] theorem State.record_en (e : Event) : (s.record e).en = s.en := rfl
@[simp] theorem State.record_rpc (e : Event) : (s.record e).rpc = s.rpc := rfl
@[simp] theorem State.record_rb (e : Event) : (s.record e).rb = s.rb := rfl
@[simp] theorem State.record_ph (e : Event) : (s.record e).ph = s.ph := rfl
@[simp] theorem State.record_pt (e : Event) : (s.record e).pt = s.pt := rfl
@[simp] theorem State.record_seq (e : Event) : (s.record e).seq = s.seq := rfl
@[simp] theorem State.record_cpc (e : Event) : (s.record e).cpc = s.cpc := rfl
@[simp] theorem State.record_ct (e : Event) : (s.record e).ct = s.ct := rfl
@[simp] theorem State.record_ch (e : Event) : (s.record e).ch = s.ch := rfl
@[simp] theorem State.record_cb (e : Event) : (s.record e).cb = s.cb := rfl
@[simp] theorem State.record_chunk (e : Event) : (s.record e).chunk = s.chunk := rfl
@[simp] theorem State.record_resolving (e : Event) : (s.record e).resolving = s.resolving := rfl
@[simp] theorem State.record_dec (e : Event) : (s.record e).dec = s.dec := rfl
@[simp] theorem State.record_out (e : Event) : (s.record e).out = s.out := rfl
@[simp] theorem State.record_rxAvail (e : Event) : (s.record e).rxAvail = s.rxAvail := rfl
@[simp] theorem State.record_trace (e : Event) : (s.record e).trace = s.trace ++ [e] := rfl
@[simp] theorem State.record_port (e : Event) : (s.record e).port = s.port := rfl
@[simp] theorem State.record_resp (e : Event) : (s.record e).resp = s.resp := rfl
@[simp] theorem State.record_turns (e : Event) : (s.record e).turns = s.turns := rfl
@[simp] theorem State.record_tick (e : Event) : (s.record e).tick = s.tick := rfl
@[simp] theorem State.record_flag (e : Event) : (s.record e).flag = s.flag := rfl
@[simp] theorem State.record_payload (e : Event) : (s.record e).payload = s.payload := rfl
@[simp] theorem State.record_occ (e : Event) : (s.record e).occ = s.occ := rfl
@[simp] theorem State.record_held (e : Event) : (s.record e).held = s.held := rfl

@[simp] theorem State.recordRb_cfg (f : Byte → Event) : (s.recordRb f).cfg = s.cfg := rfl
@[simp] theorem State.recordRb_slot (f : Byte → Event) : (s.recordRb f).slot = s.slot := rfl
@[simp] theorem State.recordRb_head (f : Byte → Event) : (s.recordRb f).head = s.head := rfl
@[simp] theorem State.recordRb_tail (f : Byte → Event) : (s.recordRb f).tail = s.tail := rfl
@[simp] theorem State.recordRb_en (f : Byte → Event) : (s.recordRb f).en = s.en := rfl
@[simp] theorem State.recordRb_rpc (f : Byte → Event) : (s.recordRb f).rpc = s.rpc := rfl
@[simp] theorem State.recordRb_rb (f : Byte → Event) : (s.recordRb f).rb = s.rb := rfl
@[simp] theorem State.recordRb_ph (f : Byte → Event) : (s.recordRb f).ph = s.ph := rfl
@[simp] theorem State.recordRb_pt (f : Byte → Event) : (s.recordRb f).pt = s.pt := rfl
@[simp] theorem State.recordRb_seq (f : Byte → Event) : (s.recordRb f).seq = s.seq := rfl
@[simp] theorem State.recordRb_cpc (f : Byte → Event) : (s.recordRb f).cpc = s.cpc := rfl
@[simp] theorem State.recordRb_ct (f : Byte → Event) : (s.recordRb f).ct = s.ct := rfl
@[simp] theorem State.recordRb_ch (f : Byte → Event) : (s.recordRb f).ch = s.ch := rfl
@[simp] theorem State.recordRb_cb (f : Byte → Event) : (s.recordRb f).cb = s.cb := rfl
@[simp] theorem State.recordRb_chunk (f : Byte → Event) : (s.recordRb f).chunk = s.chunk := rfl
@[simp] theorem State.recordRb_resolving (f : Byte → Event) : (s.recordRb f).resolving = s.resolving := rfl
@[simp] theorem State.recordRb_dec (f : Byte → Event) : (s.recordRb f).dec = s.dec := rfl
@[simp] theorem State.recordRb_out (f : Byte → Event) : (s.recordRb f).out = s.out := rfl
@[simp] theorem State.recordRb_rxAvail (f : Byte → Event) : (s.recordRb f).rxAvail = s.rxAvail := rfl
@[simp] theorem State.recordRb_trace (f : Byte → Event) : (s.recordRb f).trace = s.trace ++ (s.rb.map f).toList := rfl
@[simp] theorem State.recordRb_port (f : Byte → Event) : (s.recordRb f).port = s.port := rfl
@[simp] theorem State.recordRb_resp (f : Byte → Event) : (s.recordRb f).resp = s.resp := rfl
@[simp] theorem State.recordRb_turns (f : Byte → Event) : (s.recordRb f).turns = s.turns := rfl
@[simp] theorem State.recordRb_tick (f : Byte → Event) : (s.recordRb f).tick = s.tick := rfl
@[simp] theorem State.recordRb_flag (f : Byte → Event) : (s.recordRb f).flag = s.flag := rfl
@[simp] theorem State.recordRb_payload (f : Byte → Event) : (s.recordRb f).payload = s.payload := rfl
@[simp] theorem State.recordRb_occ (f : Byte → Event) : (s.recordRb f).occ = s.occ := rfl
@[simp] theorem State.recordRb_held (f : Byte → Event) : (s.recordRb f).held = s.held := rfl

@[simp] theorem State.latchRb_cfg (b : Byte) : (s.latchRb b).cfg = s.cfg := rfl
@[simp] theorem State.latchRb_slot (b : Byte) : (s.latchRb b).slot = s.slot := rfl
@[simp] theorem State.latchRb_head (b : Byte) : (s.latchRb b).head = s.head := rfl
@[simp] theorem State.latchRb_tail (b : Byte) : (s.latchRb b).tail = s.tail := rfl
@[simp] theorem State.latchRb_en (b : Byte) : (s.latchRb b).en = s.en := rfl
@[simp] theorem State.latchRb_rpc (b : Byte) : (s.latchRb b).rpc = s.rpc := rfl
@[simp] theorem State.latchRb_rb (b : Byte) : (s.latchRb b).rb = some b := rfl
@[simp] theorem State.latchRb_ph (b : Byte) : (s.latchRb b).ph = s.ph := rfl
@[simp] theorem State.latchRb_pt (b : Byte) : (s.latchRb b).pt = s.pt := rfl
@[simp] theorem State.latchRb_seq (b : Byte) : (s.latchRb b).seq = s.seq := rfl
@[simp] theorem State.latchRb_cpc (b : Byte) : (s.latchRb b).cpc = s.cpc := rfl
@[simp] theorem State.latchRb_ct (b : Byte) : (s.latchRb b).ct = s.ct := rfl
@[simp] theorem State.latchRb_ch (b : Byte) : (s.latchRb b).ch = s.ch := rfl
@[simp] theorem State.latchRb_cb (b : Byte) : (s.latchRb b).cb = s.cb := rfl
@[simp] theorem State.latchRb_chunk (b : Byte) : (s.latchRb b).chunk = s.chunk := rfl
@[simp] theorem State.latchRb_resolving (b : Byte) : (s.latchRb b).resolving = s.resolving := rfl
@[simp] theorem State.latchRb_dec (b : Byte) : (s.latchRb b).dec = s.dec := rfl
@[simp] theorem State.latchRb_out (b : Byte) : (s.latchRb b).out = s.out := rfl
@[simp] theorem State.latchRb_rxAvail (b : Byte) : (s.latchRb b).rxAvail = s.rxAvail := rfl
@[simp] theorem State.latchRb_trace (b : Byte) : (s.latchRb b).trace = s.trace := rfl
@[simp] theorem State.latchRb_port (b : Byte) : (s.latchRb b).port = s.port := rfl
@[simp] theorem State.latchRb_resp (b : Byte) : (s.latchRb b).resp = s.resp := rfl
@[simp] theorem State.latchRb_turns (b : Byte) : (s.latchRb b).turns = s.turns := rfl
@[simp] theorem State.latchRb_tick (b : Byte) : (s.latchRb b).tick = s.tick := rfl
@[simp] theorem State.latchRb_flag (b : Byte) : (s.latchRb b).flag = s.flag := rfl
@[simp] theorem State.latchRb_payload (b : Byte) : (s.latchRb b).payload = s.payload := rfl
@[simp] theorem State.latchRb_occ (b : Byte) : (s.latchRb b).occ = s.occ := rfl
@[simp] theorem State.latchRb_held (b : Byte) : (s.latchRb b).held = s.held := rfl

@[simp] theorem State.latchPh_cfg : s.latchPh.cfg = s.cfg := rfl
@[simp] theorem State.latchPh_slot : s.latchPh.slot = s.slot := rfl
@[simp] theorem State.latchPh_head : s.latchPh.head = s.head := rfl
@[simp] theorem State.latchPh_tail : s.latchPh.tail = s.tail := rfl
@[simp] theorem State.latchPh_en : s.latchPh.en = s.en := rfl
@[simp] theorem State.latchPh_rpc : s.latchPh.rpc = s.rpc := rfl
@[simp] theorem State.latchPh_rb : s.latchPh.rb = s.rb := rfl
@[simp] theorem State.latchPh_ph : s.latchPh.ph = some s.head := rfl
@[simp] theorem State.latchPh_pt : s.latchPh.pt = s.pt := rfl
@[simp] theorem State.latchPh_seq : s.latchPh.seq = s.seq := rfl
@[simp] theorem State.latchPh_cpc : s.latchPh.cpc = s.cpc := rfl
@[simp] theorem State.latchPh_ct : s.latchPh.ct = s.ct := rfl
@[simp] theorem State.latchPh_ch : s.latchPh.ch = s.ch := rfl
@[simp] theorem State.latchPh_cb : s.latchPh.cb = s.cb := rfl
@[simp] theorem State.latchPh_chunk : s.latchPh.chunk = s.chunk := rfl
@[simp] theorem State.latchPh_resolving : s.latchPh.resolving = s.resolving := rfl
@[simp] theorem State.latchPh_dec : s.latchPh.dec = s.dec := rfl
@[simp] theorem State.latchPh_out : s.latchPh.out = s.out := rfl
@[simp] theorem State.latchPh_rxAvail : s.latchPh.rxAvail = s.rxAvail := rfl
@[simp] theorem State.latchPh_trace : s.latchPh.trace = s.trace := rfl
@[simp] theorem State.latchPh_port : s.latchPh.port = s.port := rfl
@[simp] theorem State.latchPh_resp : s.latchPh.resp = s.resp := rfl
@[simp] theorem State.latchPh_turns : s.latchPh.turns = s.turns := rfl
@[simp] theorem State.latchPh_tick : s.latchPh.tick = s.tick := rfl
@[simp] theorem State.latchPh_flag : s.latchPh.flag = s.flag := rfl
@[simp] theorem State.latchPh_payload : s.latchPh.payload = s.payload := rfl
@[simp] theorem State.latchPh_occ : s.latchPh.occ = s.occ := rfl
@[simp] theorem State.latchPh_held : s.latchPh.held = s.held := rfl

@[simp] theorem State.latchPt_cfg : s.latchPt.cfg = s.cfg := rfl
@[simp] theorem State.latchPt_slot : s.latchPt.slot = s.slot := rfl
@[simp] theorem State.latchPt_head : s.latchPt.head = s.head := rfl
@[simp] theorem State.latchPt_tail : s.latchPt.tail = s.tail := rfl
@[simp] theorem State.latchPt_en : s.latchPt.en = s.en := rfl
@[simp] theorem State.latchPt_rpc : s.latchPt.rpc = s.rpc := rfl
@[simp] theorem State.latchPt_rb : s.latchPt.rb = s.rb := rfl
@[simp] theorem State.latchPt_ph : s.latchPt.ph = s.ph := rfl
@[simp] theorem State.latchPt_pt : s.latchPt.pt = some s.tail := rfl
@[simp] theorem State.latchPt_seq : s.latchPt.seq = s.seq := rfl
@[simp] theorem State.latchPt_cpc : s.latchPt.cpc = s.cpc := rfl
@[simp] theorem State.latchPt_ct : s.latchPt.ct = s.ct := rfl
@[simp] theorem State.latchPt_ch : s.latchPt.ch = s.ch := rfl
@[simp] theorem State.latchPt_cb : s.latchPt.cb = s.cb := rfl
@[simp] theorem State.latchPt_chunk : s.latchPt.chunk = s.chunk := rfl
@[simp] theorem State.latchPt_resolving : s.latchPt.resolving = s.resolving := rfl
@[simp] theorem State.latchPt_dec : s.latchPt.dec = s.dec := rfl
@[simp] theorem State.latchPt_out : s.latchPt.out = s.out := rfl
@[simp] theorem State.latchPt_rxAvail : s.latchPt.rxAvail = s.rxAvail := rfl
@[simp] theorem State.latchPt_trace : s.latchPt.trace = s.trace := rfl
@[simp] theorem State.latchPt_port : s.latchPt.port = s.port := rfl
@[simp] theorem State.latchPt_resp : s.latchPt.resp = s.resp := rfl
@[simp] theorem State.latchPt_turns : s.latchPt.turns = s.turns := rfl
@[simp] theorem State.latchPt_tick : s.latchPt.tick = s.tick := rfl
@[simp] theorem State.latchPt_flag : s.latchPt.flag = s.flag := rfl
@[simp] theorem State.latchPt_payload : s.latchPt.payload = s.payload := rfl
@[simp] theorem State.latchPt_occ : s.latchPt.occ = s.occ := rfl
@[simp] theorem State.latchPt_held : s.latchPt.held = s.held := rfl

@[simp] theorem State.storeSlot_cfg (c : Nat) (b : Byte) : (s.storeSlot c b).cfg = s.cfg := rfl
@[simp] theorem State.storeSlot_slot (c : Nat) (b : Byte) : (s.storeSlot c b).slot = s.slot.write (slotIndex s.cfg.cap c) b := rfl
@[simp] theorem State.storeSlot_head (c : Nat) (b : Byte) : (s.storeSlot c b).head = s.head := rfl
@[simp] theorem State.storeSlot_tail (c : Nat) (b : Byte) : (s.storeSlot c b).tail = s.tail := rfl
@[simp] theorem State.storeSlot_en (c : Nat) (b : Byte) : (s.storeSlot c b).en = s.en := rfl
@[simp] theorem State.storeSlot_rpc (c : Nat) (b : Byte) : (s.storeSlot c b).rpc = s.rpc := rfl
@[simp] theorem State.storeSlot_rb (c : Nat) (b : Byte) : (s.storeSlot c b).rb = s.rb := rfl
@[simp] theorem State.storeSlot_ph (c : Nat) (b : Byte) : (s.storeSlot c b).ph = s.ph := rfl
@[simp] theorem State.storeSlot_pt (c : Nat) (b : Byte) : (s.storeSlot c b).pt = s.pt := rfl
@[simp] theorem State.storeSlot_seq (c : Nat) (b : Byte) : (s.storeSlot c b).seq = s.seq := rfl
@[simp] theorem State.storeSlot_cpc (c : Nat) (b : Byte) : (s.storeSlot c b).cpc = s.cpc := rfl
@[simp] theorem State.storeSlot_ct (c : Nat) (b : Byte) : (s.storeSlot c b).ct = s.ct := rfl
@[simp] theorem State.storeSlot_ch (c : Nat) (b : Byte) : (s.storeSlot c b).ch = s.ch := rfl
@[simp] theorem State.storeSlot_cb (c : Nat) (b : Byte) : (s.storeSlot c b).cb = s.cb := rfl
@[simp] theorem State.storeSlot_chunk (c : Nat) (b : Byte) : (s.storeSlot c b).chunk = s.chunk := rfl
@[simp] theorem State.storeSlot_resolving (c : Nat) (b : Byte) : (s.storeSlot c b).resolving = s.resolving := rfl
@[simp] theorem State.storeSlot_dec (c : Nat) (b : Byte) : (s.storeSlot c b).dec = s.dec := rfl
@[simp] theorem State.storeSlot_out (c : Nat) (b : Byte) : (s.storeSlot c b).out = s.out := rfl
@[simp] theorem State.storeSlot_rxAvail (c : Nat) (b : Byte) : (s.storeSlot c b).rxAvail = s.rxAvail := rfl
@[simp] theorem State.storeSlot_trace (c : Nat) (b : Byte) : (s.storeSlot c b).trace = s.trace := rfl
@[simp] theorem State.storeSlot_port (c : Nat) (b : Byte) : (s.storeSlot c b).port = s.port := rfl
@[simp] theorem State.storeSlot_resp (c : Nat) (b : Byte) : (s.storeSlot c b).resp = s.resp := rfl
@[simp] theorem State.storeSlot_turns (c : Nat) (b : Byte) : (s.storeSlot c b).turns = s.turns := rfl
@[simp] theorem State.storeSlot_tick (c : Nat) (b : Byte) : (s.storeSlot c b).tick = s.tick := rfl
@[simp] theorem State.storeSlot_flag (c : Nat) (b : Byte) : (s.storeSlot c b).flag = s.flag := rfl
@[simp] theorem State.storeSlot_payload (c : Nat) (b : Byte) : (s.storeSlot c b).payload = s.payload := rfl
@[simp] theorem State.storeSlot_occ (c : Nat) (b : Byte) : (s.storeSlot c b).occ = s.occ := rfl

@[simp] theorem State.publish_cfg (c : Nat) : (s.publish c).cfg = s.cfg := rfl
@[simp] theorem State.publish_slot (c : Nat) : (s.publish c).slot = s.slot := rfl
@[simp] theorem State.publish_head (c : Nat) : (s.publish c).head = s.head := rfl
@[simp] theorem State.publish_tail (c : Nat) : (s.publish c).tail = cursorInc s.cfg.cap c := rfl
@[simp] theorem State.publish_en (c : Nat) : (s.publish c).en = s.en := rfl
@[simp] theorem State.publish_rpc (c : Nat) : (s.publish c).rpc = s.rpc := rfl
@[simp] theorem State.publish_rb (c : Nat) : (s.publish c).rb = s.rb := rfl
@[simp] theorem State.publish_ph (c : Nat) : (s.publish c).ph = s.ph := rfl
@[simp] theorem State.publish_pt (c : Nat) : (s.publish c).pt = s.pt := rfl
@[simp] theorem State.publish_seq (c : Nat) : (s.publish c).seq = s.seq := rfl
@[simp] theorem State.publish_cpc (c : Nat) : (s.publish c).cpc = s.cpc := rfl
@[simp] theorem State.publish_ct (c : Nat) : (s.publish c).ct = s.ct := rfl
@[simp] theorem State.publish_ch (c : Nat) : (s.publish c).ch = s.ch := rfl
@[simp] theorem State.publish_cb (c : Nat) : (s.publish c).cb = s.cb := rfl
@[simp] theorem State.publish_chunk (c : Nat) : (s.publish c).chunk = s.chunk := rfl
@[simp] theorem State.publish_resolving (c : Nat) : (s.publish c).resolving = s.resolving := rfl
@[simp] theorem State.publish_dec (c : Nat) : (s.publish c).dec = s.dec := rfl
@[simp] theorem State.publish_out (c : Nat) : (s.publish c).out = s.out := rfl
@[simp] theorem State.publish_rxAvail (c : Nat) : (s.publish c).rxAvail = s.rxAvail := rfl
@[simp] theorem State.publish_trace (c : Nat) : (s.publish c).trace = s.trace := rfl
@[simp] theorem State.publish_port (c : Nat) : (s.publish c).port = s.port := rfl
@[simp] theorem State.publish_resp (c : Nat) : (s.publish c).resp = s.resp := rfl
@[simp] theorem State.publish_turns (c : Nat) : (s.publish c).turns = s.turns := rfl
@[simp] theorem State.publish_tick (c : Nat) : (s.publish c).tick = s.tick := rfl
@[simp] theorem State.publish_flag (c : Nat) : (s.publish c).flag = s.flag := rfl
@[simp] theorem State.publish_payload (c : Nat) : (s.publish c).payload = s.payload := rfl

@[simp] theorem State.latchCt_cfg : s.latchCt.cfg = s.cfg := rfl
@[simp] theorem State.latchCt_slot : s.latchCt.slot = s.slot := rfl
@[simp] theorem State.latchCt_head : s.latchCt.head = s.head := rfl
@[simp] theorem State.latchCt_tail : s.latchCt.tail = s.tail := rfl
@[simp] theorem State.latchCt_en : s.latchCt.en = s.en := rfl
@[simp] theorem State.latchCt_rpc : s.latchCt.rpc = s.rpc := rfl
@[simp] theorem State.latchCt_rb : s.latchCt.rb = s.rb := rfl
@[simp] theorem State.latchCt_ph : s.latchCt.ph = s.ph := rfl
@[simp] theorem State.latchCt_pt : s.latchCt.pt = s.pt := rfl
@[simp] theorem State.latchCt_seq : s.latchCt.seq = s.seq := rfl
@[simp] theorem State.latchCt_cpc : s.latchCt.cpc = s.cpc := rfl
@[simp] theorem State.latchCt_ct : s.latchCt.ct = some s.tail := rfl
@[simp] theorem State.latchCt_ch : s.latchCt.ch = s.ch := rfl
@[simp] theorem State.latchCt_cb : s.latchCt.cb = s.cb := rfl
@[simp] theorem State.latchCt_chunk : s.latchCt.chunk = s.chunk := rfl
@[simp] theorem State.latchCt_resolving : s.latchCt.resolving = s.resolving := rfl
@[simp] theorem State.latchCt_dec : s.latchCt.dec = s.dec := rfl
@[simp] theorem State.latchCt_out : s.latchCt.out = s.out := rfl
@[simp] theorem State.latchCt_rxAvail : s.latchCt.rxAvail = s.rxAvail := rfl
@[simp] theorem State.latchCt_trace : s.latchCt.trace = s.trace := rfl
@[simp] theorem State.latchCt_port : s.latchCt.port = s.port := rfl
@[simp] theorem State.latchCt_resp : s.latchCt.resp = s.resp := rfl
@[simp] theorem State.latchCt_turns : s.latchCt.turns = s.turns := rfl
@[simp] theorem State.latchCt_tick : s.latchCt.tick = s.tick := rfl
@[simp] theorem State.latchCt_flag : s.latchCt.flag = s.flag := rfl
@[simp] theorem State.latchCt_payload : s.latchCt.payload = s.payload := rfl
@[simp] theorem State.latchCt_occ : s.latchCt.occ = s.occ := rfl
@[simp] theorem State.latchCt_held : s.latchCt.held = s.held := rfl

@[simp] theorem State.latchCh_cfg : s.latchCh.cfg = s.cfg := rfl
@[simp] theorem State.latchCh_slot : s.latchCh.slot = s.slot := rfl
@[simp] theorem State.latchCh_head : s.latchCh.head = s.head := rfl
@[simp] theorem State.latchCh_tail : s.latchCh.tail = s.tail := rfl
@[simp] theorem State.latchCh_en : s.latchCh.en = s.en := rfl
@[simp] theorem State.latchCh_rpc : s.latchCh.rpc = s.rpc := rfl
@[simp] theorem State.latchCh_rb : s.latchCh.rb = s.rb := rfl
@[simp] theorem State.latchCh_ph : s.latchCh.ph = s.ph := rfl
@[simp] theorem State.latchCh_pt : s.latchCh.pt = s.pt := rfl
@[simp] theorem State.latchCh_seq : s.latchCh.seq = s.seq := rfl
@[simp] theorem State.latchCh_cpc : s.latchCh.cpc = s.cpc := rfl
@[simp] theorem State.latchCh_ct : s.latchCh.ct = s.ct := rfl
@[simp] theorem State.latchCh_ch : s.latchCh.ch = some s.head := rfl
@[simp] theorem State.latchCh_cb : s.latchCh.cb = s.cb := rfl
@[simp] theorem State.latchCh_chunk : s.latchCh.chunk = s.chunk := rfl
@[simp] theorem State.latchCh_resolving : s.latchCh.resolving = s.resolving := rfl
@[simp] theorem State.latchCh_dec : s.latchCh.dec = s.dec := rfl
@[simp] theorem State.latchCh_out : s.latchCh.out = s.out := rfl
@[simp] theorem State.latchCh_rxAvail : s.latchCh.rxAvail = s.rxAvail := rfl
@[simp] theorem State.latchCh_trace : s.latchCh.trace = s.trace := rfl
@[simp] theorem State.latchCh_port : s.latchCh.port = s.port := rfl
@[simp] theorem State.latchCh_resp : s.latchCh.resp = s.resp := rfl
@[simp] theorem State.latchCh_turns : s.latchCh.turns = s.turns := rfl
@[simp] theorem State.latchCh_tick : s.latchCh.tick = s.tick := rfl
@[simp] theorem State.latchCh_flag : s.latchCh.flag = s.flag := rfl
@[simp] theorem State.latchCh_payload : s.latchCh.payload = s.payload := rfl
@[simp] theorem State.latchCh_occ : s.latchCh.occ = s.occ := rfl
@[simp] theorem State.latchCh_held : s.latchCh.held = s.held := rfl

@[simp] theorem State.latchCb_cfg (b : Byte) : (s.latchCb b).cfg = s.cfg := rfl
@[simp] theorem State.latchCb_slot (b : Byte) : (s.latchCb b).slot = s.slot := rfl
@[simp] theorem State.latchCb_head (b : Byte) : (s.latchCb b).head = s.head := rfl
@[simp] theorem State.latchCb_tail (b : Byte) : (s.latchCb b).tail = s.tail := rfl
@[simp] theorem State.latchCb_en (b : Byte) : (s.latchCb b).en = s.en := rfl
@[simp] theorem State.latchCb_rpc (b : Byte) : (s.latchCb b).rpc = s.rpc := rfl
@[simp] theorem State.latchCb_rb (b : Byte) : (s.latchCb b).rb = s.rb := rfl
@[simp] theorem State.latchCb_ph (b : Byte) : (s.latchCb b).ph = s.ph := rfl
@[simp] theorem State.latchCb_pt (b : Byte) : (s.latchCb b).pt = s.pt := rfl
@[simp] theorem State.latchCb_seq (b : Byte) : (s.latchCb b).seq = s.seq := rfl
@[simp] theorem State.latchCb_cpc (b : Byte) : (s.latchCb b).cpc = s.cpc := rfl
@[simp] theorem State.latchCb_ct (b : Byte) : (s.latchCb b).ct = s.ct := rfl
@[simp] theorem State.latchCb_ch (b : Byte) : (s.latchCb b).ch = s.ch := rfl
@[simp] theorem State.latchCb_cb (b : Byte) : (s.latchCb b).cb = some b := rfl
@[simp] theorem State.latchCb_chunk (b : Byte) : (s.latchCb b).chunk = s.chunk := rfl
@[simp] theorem State.latchCb_resolving (b : Byte) : (s.latchCb b).resolving = s.resolving := rfl
@[simp] theorem State.latchCb_dec (b : Byte) : (s.latchCb b).dec = s.dec := rfl
@[simp] theorem State.latchCb_out (b : Byte) : (s.latchCb b).out = s.out := rfl
@[simp] theorem State.latchCb_rxAvail (b : Byte) : (s.latchCb b).rxAvail = s.rxAvail := rfl
@[simp] theorem State.latchCb_trace (b : Byte) : (s.latchCb b).trace = s.trace := rfl
@[simp] theorem State.latchCb_port (b : Byte) : (s.latchCb b).port = s.port := rfl
@[simp] theorem State.latchCb_resp (b : Byte) : (s.latchCb b).resp = s.resp := rfl
@[simp] theorem State.latchCb_turns (b : Byte) : (s.latchCb b).turns = s.turns := rfl
@[simp] theorem State.latchCb_tick (b : Byte) : (s.latchCb b).tick = s.tick := rfl
@[simp] theorem State.latchCb_flag (b : Byte) : (s.latchCb b).flag = s.flag := rfl
@[simp] theorem State.latchCb_payload (b : Byte) : (s.latchCb b).payload = s.payload := rfl
@[simp] theorem State.latchCb_occ (b : Byte) : (s.latchCb b).occ = s.occ := rfl
@[simp] theorem State.latchCb_held (b : Byte) : (s.latchCb b).held = s.held := rfl

@[simp] theorem State.release_cfg (c : Nat) : (s.release c).cfg = s.cfg := rfl
@[simp] theorem State.release_slot (c : Nat) : (s.release c).slot = s.slot := rfl
@[simp] theorem State.release_head (c : Nat) : (s.release c).head = cursorInc s.cfg.cap c := rfl
@[simp] theorem State.release_tail (c : Nat) : (s.release c).tail = s.tail := rfl
@[simp] theorem State.release_en (c : Nat) : (s.release c).en = s.en := rfl
@[simp] theorem State.release_rpc (c : Nat) : (s.release c).rpc = s.rpc := rfl
@[simp] theorem State.release_rb (c : Nat) : (s.release c).rb = s.rb := rfl
@[simp] theorem State.release_ph (c : Nat) : (s.release c).ph = s.ph := rfl
@[simp] theorem State.release_pt (c : Nat) : (s.release c).pt = s.pt := rfl
@[simp] theorem State.release_seq (c : Nat) : (s.release c).seq = s.seq := rfl
@[simp] theorem State.release_cpc (c : Nat) : (s.release c).cpc = s.cpc := rfl
@[simp] theorem State.release_ct (c : Nat) : (s.release c).ct = s.ct := rfl
@[simp] theorem State.release_ch (c : Nat) : (s.release c).ch = s.ch := rfl
@[simp] theorem State.release_cb (c : Nat) : (s.release c).cb = s.cb := rfl
@[simp] theorem State.release_chunk (c : Nat) : (s.release c).chunk = s.chunk := rfl
@[simp] theorem State.release_resolving (c : Nat) : (s.release c).resolving = s.resolving := rfl
@[simp] theorem State.release_dec (c : Nat) : (s.release c).dec = s.dec := rfl
@[simp] theorem State.release_out (c : Nat) : (s.release c).out = s.out := rfl
@[simp] theorem State.release_rxAvail (c : Nat) : (s.release c).rxAvail = s.rxAvail := rfl
@[simp] theorem State.release_trace (c : Nat) : (s.release c).trace = s.trace := rfl
@[simp] theorem State.release_port (c : Nat) : (s.release c).port = s.port := rfl
@[simp] theorem State.release_resp (c : Nat) : (s.release c).resp = s.resp := rfl
@[simp] theorem State.release_turns (c : Nat) : (s.release c).turns = s.turns := rfl
@[simp] theorem State.release_tick (c : Nat) : (s.release c).tick = s.tick := rfl
@[simp] theorem State.release_flag (c : Nat) : (s.release c).flag = s.flag := rfl
@[simp] theorem State.release_payload (c : Nat) : (s.release c).payload = s.payload := rfl

@[simp] theorem State.goRpc_cfg (p : RpcPos) : (s.goRpc p).cfg = s.cfg := rfl
@[simp] theorem State.goRpc_slot (p : RpcPos) : (s.goRpc p).slot = s.slot := rfl
@[simp] theorem State.goRpc_head (p : RpcPos) : (s.goRpc p).head = s.head := rfl
@[simp] theorem State.goRpc_tail (p : RpcPos) : (s.goRpc p).tail = s.tail := rfl
@[simp] theorem State.goRpc_en (p : RpcPos) : (s.goRpc p).en = s.en := rfl
@[simp] theorem State.goRpc_rpc (p : RpcPos) : (s.goRpc p).rpc = p := rfl
@[simp] theorem State.goRpc_rb (p : RpcPos) : (s.goRpc p).rb = s.rb := rfl
@[simp] theorem State.goRpc_ph (p : RpcPos) : (s.goRpc p).ph = s.ph := rfl
@[simp] theorem State.goRpc_pt (p : RpcPos) : (s.goRpc p).pt = s.pt := rfl
@[simp] theorem State.goRpc_seq (p : RpcPos) : (s.goRpc p).seq = s.seq := rfl
@[simp] theorem State.goRpc_cpc (p : RpcPos) : (s.goRpc p).cpc = s.cpc := rfl
@[simp] theorem State.goRpc_ct (p : RpcPos) : (s.goRpc p).ct = s.ct := rfl
@[simp] theorem State.goRpc_ch (p : RpcPos) : (s.goRpc p).ch = s.ch := rfl
@[simp] theorem State.goRpc_cb (p : RpcPos) : (s.goRpc p).cb = s.cb := rfl
@[simp] theorem State.goRpc_chunk (p : RpcPos) : (s.goRpc p).chunk = s.chunk := rfl
@[simp] theorem State.goRpc_resolving (p : RpcPos) : (s.goRpc p).resolving = s.resolving := rfl
@[simp] theorem State.goRpc_dec (p : RpcPos) : (s.goRpc p).dec = s.dec := rfl
@[simp] theorem State.goRpc_out (p : RpcPos) : (s.goRpc p).out = s.out := rfl
@[simp] theorem State.goRpc_rxAvail (p : RpcPos) : (s.goRpc p).rxAvail = s.rxAvail := rfl
@[simp] theorem State.goRpc_trace (p : RpcPos) : (s.goRpc p).trace = s.trace := rfl
@[simp] theorem State.goRpc_port (p : RpcPos) : (s.goRpc p).port = s.port := rfl
@[simp] theorem State.goRpc_resp (p : RpcPos) : (s.goRpc p).resp = s.resp := rfl
@[simp] theorem State.goRpc_turns (p : RpcPos) : (s.goRpc p).turns = s.turns := rfl
@[simp] theorem State.goRpc_tick (p : RpcPos) : (s.goRpc p).tick = s.tick := rfl
@[simp] theorem State.goRpc_flag (p : RpcPos) : (s.goRpc p).flag = s.flag := rfl
@[simp] theorem State.goRpc_payload (p : RpcPos) : (s.goRpc p).payload = s.payload := rfl
@[simp] theorem State.goRpc_occ (p : RpcPos) : (s.goRpc p).occ = s.occ := rfl
@[simp] theorem State.goRpc_held (p : RpcPos) : (s.goRpc p).held = s.held := rfl

@[simp] theorem State.goCpc_cfg (p : CpcPos) : (s.goCpc p).cfg = s.cfg := rfl
@[simp] theorem State.goCpc_slot (p : CpcPos) : (s.goCpc p).slot = s.slot := rfl
@[simp] theorem State.goCpc_head (p : CpcPos) : (s.goCpc p).head = s.head := rfl
@[simp] theorem State.goCpc_tail (p : CpcPos) : (s.goCpc p).tail = s.tail := rfl
@[simp] theorem State.goCpc_en (p : CpcPos) : (s.goCpc p).en = s.en := rfl
@[simp] theorem State.goCpc_rpc (p : CpcPos) : (s.goCpc p).rpc = s.rpc := rfl
@[simp] theorem State.goCpc_rb (p : CpcPos) : (s.goCpc p).rb = s.rb := rfl
@[simp] theorem State.goCpc_ph (p : CpcPos) : (s.goCpc p).ph = s.ph := rfl
@[simp] theorem State.goCpc_pt (p : CpcPos) : (s.goCpc p).pt = s.pt := rfl
@[simp] theorem State.goCpc_seq (p : CpcPos) : (s.goCpc p).seq = s.seq := rfl
@[simp] theorem State.goCpc_cpc (p : CpcPos) : (s.goCpc p).cpc = p := rfl
@[simp] theorem State.goCpc_ct (p : CpcPos) : (s.goCpc p).ct = s.ct := rfl
@[simp] theorem State.goCpc_ch (p : CpcPos) : (s.goCpc p).ch = s.ch := rfl
@[simp] theorem State.goCpc_cb (p : CpcPos) : (s.goCpc p).cb = s.cb := rfl
@[simp] theorem State.goCpc_chunk (p : CpcPos) : (s.goCpc p).chunk = s.chunk := rfl
@[simp] theorem State.goCpc_resolving (p : CpcPos) : (s.goCpc p).resolving = s.resolving := rfl
@[simp] theorem State.goCpc_dec (p : CpcPos) : (s.goCpc p).dec = s.dec := rfl
@[simp] theorem State.goCpc_out (p : CpcPos) : (s.goCpc p).out = s.out := rfl
@[simp] theorem State.goCpc_rxAvail (p : CpcPos) : (s.goCpc p).rxAvail = s.rxAvail := rfl
@[simp] theorem State.goCpc_trace (p : CpcPos) : (s.goCpc p).trace = s.trace := rfl
@[simp] theorem State.goCpc_port (p : CpcPos) : (s.goCpc p).port = s.port := rfl
@[simp] theorem State.goCpc_resp (p : CpcPos) : (s.goCpc p).resp = s.resp := rfl
@[simp] theorem State.goCpc_turns (p : CpcPos) : (s.goCpc p).turns = s.turns := rfl
@[simp] theorem State.goCpc_tick (p : CpcPos) : (s.goCpc p).tick = s.tick := rfl
@[simp] theorem State.goCpc_flag (p : CpcPos) : (s.goCpc p).flag = s.flag := rfl
@[simp] theorem State.goCpc_payload (p : CpcPos) : (s.goCpc p).payload = s.payload := rfl
@[simp] theorem State.goCpc_occ (p : CpcPos) : (s.goCpc p).occ = s.occ := rfl
@[simp] theorem State.goCpc_held (p : CpcPos) : (s.goCpc p).held = s.held := rfl

@[simp] theorem State.goSeq_cfg (p : SeqPos) : (s.goSeq p).cfg = s.cfg := rfl
@[simp] theorem State.goSeq_slot (p : SeqPos) : (s.goSeq p).slot = s.slot := rfl
@[simp] theorem State.goSeq_head (p : SeqPos) : (s.goSeq p).head = s.head := rfl
@[simp] theorem State.goSeq_tail (p : SeqPos) : (s.goSeq p).tail = s.tail := rfl
@[simp] theorem State.goSeq_en (p : SeqPos) : (s.goSeq p).en = s.en := rfl
@[simp] theorem State.goSeq_rpc (p : SeqPos) : (s.goSeq p).rpc = s.rpc := rfl
@[simp] theorem State.goSeq_rb (p : SeqPos) : (s.goSeq p).rb = s.rb := rfl
@[simp] theorem State.goSeq_ph (p : SeqPos) : (s.goSeq p).ph = s.ph := rfl
@[simp] theorem State.goSeq_pt (p : SeqPos) : (s.goSeq p).pt = s.pt := rfl
@[simp] theorem State.goSeq_seq (p : SeqPos) : (s.goSeq p).seq = p := rfl
@[simp] theorem State.goSeq_cpc (p : SeqPos) : (s.goSeq p).cpc = s.cpc := rfl
@[simp] theorem State.goSeq_ct (p : SeqPos) : (s.goSeq p).ct = s.ct := rfl
@[simp] theorem State.goSeq_ch (p : SeqPos) : (s.goSeq p).ch = s.ch := rfl
@[simp] theorem State.goSeq_cb (p : SeqPos) : (s.goSeq p).cb = s.cb := rfl
@[simp] theorem State.goSeq_chunk (p : SeqPos) : (s.goSeq p).chunk = s.chunk := rfl
@[simp] theorem State.goSeq_resolving (p : SeqPos) : (s.goSeq p).resolving = s.resolving := rfl
@[simp] theorem State.goSeq_dec (p : SeqPos) : (s.goSeq p).dec = s.dec := rfl
@[simp] theorem State.goSeq_out (p : SeqPos) : (s.goSeq p).out = s.out := rfl
@[simp] theorem State.goSeq_rxAvail (p : SeqPos) : (s.goSeq p).rxAvail = s.rxAvail := rfl
@[simp] theorem State.goSeq_trace (p : SeqPos) : (s.goSeq p).trace = s.trace := rfl
@[simp] theorem State.goSeq_port (p : SeqPos) : (s.goSeq p).port = s.port := rfl
@[simp] theorem State.goSeq_resp (p : SeqPos) : (s.goSeq p).resp = s.resp := rfl
@[simp] theorem State.goSeq_turns (p : SeqPos) : (s.goSeq p).turns = s.turns := rfl
@[simp] theorem State.goSeq_tick (p : SeqPos) : (s.goSeq p).tick = s.tick := rfl
@[simp] theorem State.goSeq_flag (p : SeqPos) : (s.goSeq p).flag = s.flag := rfl
@[simp] theorem State.goSeq_payload (p : SeqPos) : (s.goSeq p).payload = s.payload := rfl
@[simp] theorem State.goSeq_occ (p : SeqPos) : (s.goSeq p).occ = s.occ := rfl
@[simp] theorem State.goSeq_held (p : SeqPos) : (s.goSeq p).held = s.held := rfl

@[simp] theorem State.setRx_cfg (bs : List Byte) : (s.setRx bs).cfg = s.cfg := rfl
@[simp] theorem State.setRx_slot (bs : List Byte) : (s.setRx bs).slot = s.slot := rfl
@[simp] theorem State.setRx_head (bs : List Byte) : (s.setRx bs).head = s.head := rfl
@[simp] theorem State.setRx_tail (bs : List Byte) : (s.setRx bs).tail = s.tail := rfl
@[simp] theorem State.setRx_en (bs : List Byte) : (s.setRx bs).en = s.en := rfl
@[simp] theorem State.setRx_rpc (bs : List Byte) : (s.setRx bs).rpc = s.rpc := rfl
@[simp] theorem State.setRx_rb (bs : List Byte) : (s.setRx bs).rb = s.rb := rfl
@[simp] theorem State.setRx_ph (bs : List Byte) : (s.setRx bs).ph = s.ph := rfl
@[simp] theorem State.setRx_pt (bs : List Byte) : (s.setRx bs).pt = s.pt := rfl
@[simp] theorem State.setRx_seq (bs : List Byte) : (s.setRx bs).seq = s.seq := rfl
@[simp] theorem State.setRx_cpc (bs : List Byte) : (s.setRx bs).cpc = s.cpc := rfl
@[simp] theorem State.setRx_ct (bs : List Byte) : (s.setRx bs).ct = s.ct := rfl
@[simp] theorem State.setRx_ch (bs : List Byte) : (s.setRx bs).ch = s.ch := rfl
@[simp] theorem State.setRx_cb (bs : List Byte) : (s.setRx bs).cb = s.cb := rfl
@[simp] theorem State.setRx_chunk (bs : List Byte) : (s.setRx bs).chunk = s.chunk := rfl
@[simp] theorem State.setRx_resolving (bs : List Byte) : (s.setRx bs).resolving = s.resolving := rfl
@[simp] theorem State.setRx_dec (bs : List Byte) : (s.setRx bs).dec = s.dec := rfl
@[simp] theorem State.setRx_out (bs : List Byte) : (s.setRx bs).out = s.out := rfl
@[simp] theorem State.setRx_rxAvail (bs : List Byte) : (s.setRx bs).rxAvail = bs := rfl
@[simp] theorem State.setRx_trace (bs : List Byte) : (s.setRx bs).trace = s.trace := rfl
@[simp] theorem State.setRx_port (bs : List Byte) : (s.setRx bs).port = s.port := rfl
@[simp] theorem State.setRx_resp (bs : List Byte) : (s.setRx bs).resp = s.resp := rfl
@[simp] theorem State.setRx_turns (bs : List Byte) : (s.setRx bs).turns = s.turns := rfl
@[simp] theorem State.setRx_tick (bs : List Byte) : (s.setRx bs).tick = s.tick := rfl
@[simp] theorem State.setRx_flag (bs : List Byte) : (s.setRx bs).flag = s.flag := rfl
@[simp] theorem State.setRx_payload (bs : List Byte) : (s.setRx bs).payload = s.payload := rfl
@[simp] theorem State.setRx_occ (bs : List Byte) : (s.setRx bs).occ = s.occ := rfl
@[simp] theorem State.setRx_held (bs : List Byte) : (s.setRx bs).held = s.held := rfl

@[simp] theorem State.setChunk_cfg (bs : List Byte) : (s.setChunk bs).cfg = s.cfg := rfl
@[simp] theorem State.setChunk_slot (bs : List Byte) : (s.setChunk bs).slot = s.slot := rfl
@[simp] theorem State.setChunk_head (bs : List Byte) : (s.setChunk bs).head = s.head := rfl
@[simp] theorem State.setChunk_tail (bs : List Byte) : (s.setChunk bs).tail = s.tail := rfl
@[simp] theorem State.setChunk_en (bs : List Byte) : (s.setChunk bs).en = s.en := rfl
@[simp] theorem State.setChunk_rpc (bs : List Byte) : (s.setChunk bs).rpc = s.rpc := rfl
@[simp] theorem State.setChunk_rb (bs : List Byte) : (s.setChunk bs).rb = s.rb := rfl
@[simp] theorem State.setChunk_ph (bs : List Byte) : (s.setChunk bs).ph = s.ph := rfl
@[simp] theorem State.setChunk_pt (bs : List Byte) : (s.setChunk bs).pt = s.pt := rfl
@[simp] theorem State.setChunk_seq (bs : List Byte) : (s.setChunk bs).seq = s.seq := rfl
@[simp] theorem State.setChunk_cpc (bs : List Byte) : (s.setChunk bs).cpc = s.cpc := rfl
@[simp] theorem State.setChunk_ct (bs : List Byte) : (s.setChunk bs).ct = s.ct := rfl
@[simp] theorem State.setChunk_ch (bs : List Byte) : (s.setChunk bs).ch = s.ch := rfl
@[simp] theorem State.setChunk_cb (bs : List Byte) : (s.setChunk bs).cb = s.cb := rfl
@[simp] theorem State.setChunk_chunk (bs : List Byte) : (s.setChunk bs).chunk = bs := rfl
@[simp] theorem State.setChunk_resolving (bs : List Byte) : (s.setChunk bs).resolving = s.resolving := rfl
@[simp] theorem State.setChunk_dec (bs : List Byte) : (s.setChunk bs).dec = s.dec := rfl
@[simp] theorem State.setChunk_out (bs : List Byte) : (s.setChunk bs).out = s.out := rfl
@[simp] theorem State.setChunk_rxAvail (bs : List Byte) : (s.setChunk bs).rxAvail = s.rxAvail := rfl
@[simp] theorem State.setChunk_trace (bs : List Byte) : (s.setChunk bs).trace = s.trace := rfl
@[simp] theorem State.setChunk_port (bs : List Byte) : (s.setChunk bs).port = s.port := rfl
@[simp] theorem State.setChunk_resp (bs : List Byte) : (s.setChunk bs).resp = s.resp := rfl
@[simp] theorem State.setChunk_turns (bs : List Byte) : (s.setChunk bs).turns = s.turns := rfl
@[simp] theorem State.setChunk_tick (bs : List Byte) : (s.setChunk bs).tick = s.tick := rfl
@[simp] theorem State.setChunk_flag (bs : List Byte) : (s.setChunk bs).flag = s.flag := rfl
@[simp] theorem State.setChunk_payload (bs : List Byte) : (s.setChunk bs).payload = s.payload := rfl
@[simp] theorem State.setChunk_occ (bs : List Byte) : (s.setChunk bs).occ = s.occ := rfl
@[simp] theorem State.setChunk_held (bs : List Byte) : (s.setChunk bs).held = s.held := rfl

@[simp] theorem State.setResolving_cfg (r : Bool) : (s.setResolving r).cfg = s.cfg := rfl
@[simp] theorem State.setResolving_slot (r : Bool) : (s.setResolving r).slot = s.slot := rfl
@[simp] theorem State.setResolving_head (r : Bool) : (s.setResolving r).head = s.head := rfl
@[simp] theorem State.setResolving_tail (r : Bool) : (s.setResolving r).tail = s.tail := rfl
@[simp] theorem State.setResolving_en (r : Bool) : (s.setResolving r).en = s.en := rfl
@[simp] theorem State.setResolving_rpc (r : Bool) : (s.setResolving r).rpc = s.rpc := rfl
@[simp] theorem State.setResolving_rb (r : Bool) : (s.setResolving r).rb = s.rb := rfl
@[simp] theorem State.setResolving_ph (r : Bool) : (s.setResolving r).ph = s.ph := rfl
@[simp] theorem State.setResolving_pt (r : Bool) : (s.setResolving r).pt = s.pt := rfl
@[simp] theorem State.setResolving_seq (r : Bool) : (s.setResolving r).seq = s.seq := rfl
@[simp] theorem State.setResolving_cpc (r : Bool) : (s.setResolving r).cpc = s.cpc := rfl
@[simp] theorem State.setResolving_ct (r : Bool) : (s.setResolving r).ct = s.ct := rfl
@[simp] theorem State.setResolving_ch (r : Bool) : (s.setResolving r).ch = s.ch := rfl
@[simp] theorem State.setResolving_cb (r : Bool) : (s.setResolving r).cb = s.cb := rfl
@[simp] theorem State.setResolving_chunk (r : Bool) : (s.setResolving r).chunk = s.chunk := rfl
@[simp] theorem State.setResolving_resolving (r : Bool) : (s.setResolving r).resolving = r := rfl
@[simp] theorem State.setResolving_dec (r : Bool) : (s.setResolving r).dec = s.dec := rfl
@[simp] theorem State.setResolving_out (r : Bool) : (s.setResolving r).out = s.out := rfl
@[simp] theorem State.setResolving_rxAvail (r : Bool) : (s.setResolving r).rxAvail = s.rxAvail := rfl
@[simp] theorem State.setResolving_trace (r : Bool) : (s.setResolving r).trace = s.trace := rfl
@[simp] theorem State.setResolving_port (r : Bool) : (s.setResolving r).port = s.port := rfl
@[simp] theorem State.setResolving_resp (r : Bool) : (s.setResolving r).resp = s.resp := rfl
@[simp] theorem State.setResolving_turns (r : Bool) : (s.setResolving r).turns = s.turns := rfl
@[simp] theorem State.setResolving_tick (r : Bool) : (s.setResolving r).tick = s.tick := rfl
@[simp] theorem State.setResolving_flag (r : Bool) : (s.setResolving r).flag = s.flag := rfl
@[simp] theorem State.setResolving_payload (r : Bool) : (s.setResolving r).payload = s.payload := rfl
@[simp] theorem State.setResolving_occ (r : Bool) : (s.setResolving r).occ = s.occ := rfl
@[simp] theorem State.setResolving_held (r : Bool) : (s.setResolving r).held = s.held := rfl

@[simp] theorem State.feedDec_cfg (bs : List Byte) : (s.feedDec bs).cfg = s.cfg := rfl
@[simp] theorem State.feedDec_slot (bs : List Byte) : (s.feedDec bs).slot = s.slot := rfl
@[simp] theorem State.feedDec_head (bs : List Byte) : (s.feedDec bs).head = s.head := rfl
@[simp] theorem State.feedDec_tail (bs : List Byte) : (s.feedDec bs).tail = s.tail := rfl
@[simp] theorem State.feedDec_en (bs : List Byte) : (s.feedDec bs).en = s.en := rfl
@[simp] theorem State.feedDec_rpc (bs : List Byte) : (s.feedDec bs).rpc = s.rpc := rfl
@[simp] theorem State.feedDec_rb (bs : List Byte) : (s.feedDec bs).rb = s.rb := rfl
@[simp] theorem State.feedDec_ph (bs : List Byte) : (s.feedDec bs).ph = s.ph := rfl
@[simp] theorem State.feedDec_pt (bs : List Byte) : (s.feedDec bs).pt = s.pt := rfl
@[simp] theorem State.feedDec_seq (bs : List Byte) : (s.feedDec bs).seq = s.seq := rfl
@[simp] theorem State.feedDec_cpc (bs : List Byte) : (s.feedDec bs).cpc = s.cpc := rfl
@[simp] theorem State.feedDec_ct (bs : List Byte) : (s.feedDec bs).ct = s.ct := rfl
@[simp] theorem State.feedDec_ch (bs : List Byte) : (s.feedDec bs).ch = s.ch := rfl
@[simp] theorem State.feedDec_cb (bs : List Byte) : (s.feedDec bs).cb = s.cb := rfl
@[simp] theorem State.feedDec_chunk (bs : List Byte) : (s.feedDec bs).chunk = s.chunk := rfl
@[simp] theorem State.feedDec_resolving (bs : List Byte) : (s.feedDec bs).resolving = s.resolving := rfl
@[simp] theorem State.feedDec_dec (bs : List Byte) : (s.feedDec bs).dec = s.dec ++ [bs] := rfl
@[simp] theorem State.feedDec_out (bs : List Byte) : (s.feedDec bs).out = s.out := rfl
@[simp] theorem State.feedDec_rxAvail (bs : List Byte) : (s.feedDec bs).rxAvail = s.rxAvail := rfl
@[simp] theorem State.feedDec_trace (bs : List Byte) : (s.feedDec bs).trace = s.trace ++ [.fed bs] := rfl
@[simp] theorem State.feedDec_port (bs : List Byte) : (s.feedDec bs).port = s.port := rfl
@[simp] theorem State.feedDec_resp (bs : List Byte) : (s.feedDec bs).resp = s.resp := rfl
@[simp] theorem State.feedDec_turns (bs : List Byte) : (s.feedDec bs).turns = s.turns := rfl
@[simp] theorem State.feedDec_tick (bs : List Byte) : (s.feedDec bs).tick = s.tick := rfl
@[simp] theorem State.feedDec_occ (bs : List Byte) : (s.feedDec bs).occ = s.occ := rfl
@[simp] theorem State.feedDec_held (bs : List Byte) : (s.feedDec bs).held = s.held := rfl

@[simp] theorem State.emit_cfg (p : List Byte) : (s.emit p).cfg = s.cfg := rfl
@[simp] theorem State.emit_slot (p : List Byte) : (s.emit p).slot = s.slot := rfl
@[simp] theorem State.emit_head (p : List Byte) : (s.emit p).head = s.head := rfl
@[simp] theorem State.emit_tail (p : List Byte) : (s.emit p).tail = s.tail := rfl
@[simp] theorem State.emit_en (p : List Byte) : (s.emit p).en = s.en := rfl
@[simp] theorem State.emit_rpc (p : List Byte) : (s.emit p).rpc = s.rpc := rfl
@[simp] theorem State.emit_rb (p : List Byte) : (s.emit p).rb = s.rb := rfl
@[simp] theorem State.emit_ph (p : List Byte) : (s.emit p).ph = s.ph := rfl
@[simp] theorem State.emit_pt (p : List Byte) : (s.emit p).pt = s.pt := rfl
@[simp] theorem State.emit_seq (p : List Byte) : (s.emit p).seq = s.seq := rfl
@[simp] theorem State.emit_cpc (p : List Byte) : (s.emit p).cpc = s.cpc := rfl
@[simp] theorem State.emit_ct (p : List Byte) : (s.emit p).ct = s.ct := rfl
@[simp] theorem State.emit_ch (p : List Byte) : (s.emit p).ch = s.ch := rfl
@[simp] theorem State.emit_cb (p : List Byte) : (s.emit p).cb = s.cb := rfl
@[simp] theorem State.emit_chunk (p : List Byte) : (s.emit p).chunk = s.chunk := rfl
@[simp] theorem State.emit_resolving (p : List Byte) : (s.emit p).resolving = s.resolving := rfl
@[simp] theorem State.emit_dec (p : List Byte) : (s.emit p).dec = s.dec := rfl
@[simp] theorem State.emit_out (p : List Byte) : (s.emit p).out = s.out ++ [p] := rfl
@[simp] theorem State.emit_rxAvail (p : List Byte) : (s.emit p).rxAvail = s.rxAvail := rfl
@[simp] theorem State.emit_trace (p : List Byte) : (s.emit p).trace = s.trace ++ [.out p] := rfl
@[simp] theorem State.emit_port (p : List Byte) : (s.emit p).port = s.port := rfl
@[simp] theorem State.emit_resp (p : List Byte) : (s.emit p).resp = s.resp := rfl
@[simp] theorem State.emit_turns (p : List Byte) : (s.emit p).turns = s.turns := rfl
@[simp] theorem State.emit_tick (p : List Byte) : (s.emit p).tick = s.tick := rfl
@[simp] theorem State.emit_flag (p : List Byte) : (s.emit p).flag = s.flag := rfl
@[simp] theorem State.emit_payload (p : List Byte) : (s.emit p).payload = s.payload := rfl
@[simp] theorem State.emit_occ (p : List Byte) : (s.emit p).occ = s.occ := rfl
@[simp] theorem State.emit_held (p : List Byte) : (s.emit p).held = s.held := rfl

@[simp] theorem State.respond_cfg (bs : List Byte) : (s.respond bs).cfg = s.cfg := rfl
@[simp] theorem State.respond_slot (bs : List Byte) : (s.respond bs).slot = s.slot := rfl
@[simp] theorem State.respond_head (bs : List Byte) : (s.respond bs).head = s.head := rfl
@[simp] theorem State.respond_tail (bs : List Byte) : (s.respond bs).tail = s.tail := rfl
@[simp] theorem State.respond_en (bs : List Byte) : (s.respond bs).en = s.en := rfl
@[simp] theorem State.respond_rpc (bs : List Byte) : (s.respond bs).rpc = s.rpc := rfl
@[simp] theorem State.respond_rb (bs : List Byte) : (s.respond bs).rb = s.rb := rfl
@[simp] theorem State.respond_ph (bs : List Byte) : (s.respond bs).ph = s.ph := rfl
@[simp] theorem State.respond_pt (bs : List Byte) : (s.respond bs).pt = s.pt := rfl
@[simp] theorem State.respond_seq (bs : List Byte) : (s.respond bs).seq = s.seq := rfl
@[simp] theorem State.respond_cpc (bs : List Byte) : (s.respond bs).cpc = s.cpc := rfl
@[simp] theorem State.respond_ct (bs : List Byte) : (s.respond bs).ct = s.ct := rfl
@[simp] theorem State.respond_ch (bs : List Byte) : (s.respond bs).ch = s.ch := rfl
@[simp] theorem State.respond_cb (bs : List Byte) : (s.respond bs).cb = s.cb := rfl
@[simp] theorem State.respond_chunk (bs : List Byte) : (s.respond bs).chunk = s.chunk := rfl
@[simp] theorem State.respond_resolving (bs : List Byte) : (s.respond bs).resolving = s.resolving := rfl
@[simp] theorem State.respond_dec (bs : List Byte) : (s.respond bs).dec = s.dec := rfl
@[simp] theorem State.respond_out (bs : List Byte) : (s.respond bs).out = s.out := rfl
@[simp] theorem State.respond_rxAvail (bs : List Byte) : (s.respond bs).rxAvail = s.rxAvail := rfl
@[simp] theorem State.respond_trace (bs : List Byte) : (s.respond bs).trace = s.trace := rfl
@[simp] theorem State.respond_port (bs : List Byte) : (s.respond bs).port = s.port := rfl
@[simp] theorem State.respond_resp (bs : List Byte) : (s.respond bs).resp = s.resp ++ bs := rfl
@[simp] theorem State.respond_turns (bs : List Byte) : (s.respond bs).turns = s.turns := rfl
@[simp] theorem State.respond_tick (bs : List Byte) : (s.respond bs).tick = s.tick := rfl
@[simp] theorem State.respond_flag (bs : List Byte) : (s.respond bs).flag = s.flag := rfl
@[simp] theorem State.respond_payload (bs : List Byte) : (s.respond bs).payload = s.payload := rfl
@[simp] theorem State.respond_occ (bs : List Byte) : (s.respond bs).occ = s.occ := rfl
@[simp] theorem State.respond_held (bs : List Byte) : (s.respond bs).held = s.held := rfl

@[simp] theorem State.enterHandler_cfg : s.enterHandler.cfg = s.cfg := rfl
@[simp] theorem State.enterHandler_slot : s.enterHandler.slot = s.slot := rfl
@[simp] theorem State.enterHandler_head : s.enterHandler.head = s.head := rfl
@[simp] theorem State.enterHandler_tail : s.enterHandler.tail = s.tail := rfl
@[simp] theorem State.enterHandler_en : s.enterHandler.en = s.en := rfl
@[simp] theorem State.enterHandler_rpc : s.enterHandler.rpc = .rRead := rfl
@[simp] theorem State.enterHandler_rb : s.enterHandler.rb = s.rb := rfl
@[simp] theorem State.enterHandler_ph : s.enterHandler.ph = s.ph := rfl
@[simp] theorem State.enterHandler_pt : s.enterHandler.pt = s.pt := rfl
@[simp] theorem State.enterHandler_seq : s.enterHandler.seq = s.seq := rfl
@[simp] theorem State.enterHandler_cpc : s.enterHandler.cpc = s.cpc := rfl
@[simp] theorem State.enterHandler_ct : s.enterHandler.ct = s.ct := rfl
@[simp] theorem State.enterHandler_ch : s.enterHandler.ch = s.ch := rfl
@[simp] theorem State.enterHandler_cb : s.enterHandler.cb = s.cb := rfl
@[simp] theorem State.enterHandler_chunk : s.enterHandler.chunk = s.chunk := rfl
@[simp] theorem State.enterHandler_resolving : s.enterHandler.resolving = s.resolving := rfl
@[simp] theorem State.enterHandler_dec : s.enterHandler.dec = s.dec := rfl
@[simp] theorem State.enterHandler_out : s.enterHandler.out = s.out := rfl
@[simp] theorem State.enterHandler_rxAvail : s.enterHandler.rxAvail = s.rxAvail := rfl
@[simp] theorem State.enterHandler_trace : s.enterHandler.trace = s.trace := rfl
@[simp] theorem State.enterHandler_port : s.enterHandler.port = s.port := rfl
@[simp] theorem State.enterHandler_resp : s.enterHandler.resp = s.resp := rfl
@[simp] theorem State.enterHandler_turns : s.enterHandler.turns = s.turns := rfl
@[simp] theorem State.enterHandler_tick : s.enterHandler.tick = s.tick := rfl
@[simp] theorem State.enterHandler_flag : s.enterHandler.flag = s.flag := rfl
@[simp] theorem State.enterHandler_payload : s.enterHandler.payload = s.payload := rfl
@[simp] theorem State.enterHandler_occ : s.enterHandler.occ = s.occ := rfl
@[simp] theorem State.enterHandler_held : s.enterHandler.held = s.held := rfl

@[simp] theorem State.leaveHandler_cfg : s.leaveHandler.cfg = s.cfg := rfl
@[simp] theorem State.leaveHandler_slot : s.leaveHandler.slot = s.slot := rfl
@[simp] theorem State.leaveHandler_head : s.leaveHandler.head = s.head := rfl
@[simp] theorem State.leaveHandler_tail : s.leaveHandler.tail = s.tail := rfl
@[simp] theorem State.leaveHandler_en : s.leaveHandler.en = s.en := rfl
@[simp] theorem State.leaveHandler_rpc : s.leaveHandler.rpc = .rIdle := rfl
@[simp] theorem State.leaveHandler_rb : s.leaveHandler.rb = s.rb := rfl
@[simp] theorem State.leaveHandler_ph : s.leaveHandler.ph = s.ph := rfl
@[simp] theorem State.leaveHandler_pt : s.leaveHandler.pt = s.pt := rfl
@[simp] theorem State.leaveHandler_seq : s.leaveHandler.seq = s.seq := rfl
@[simp] theorem State.leaveHandler_cpc : s.leaveHandler.cpc = s.cpc := rfl
@[simp] theorem State.leaveHandler_ct : s.leaveHandler.ct = s.ct := rfl
@[simp] theorem State.leaveHandler_ch : s.leaveHandler.ch = s.ch := rfl
@[simp] theorem State.leaveHandler_cb : s.leaveHandler.cb = s.cb := rfl
@[simp] theorem State.leaveHandler_chunk : s.leaveHandler.chunk = s.chunk := rfl
@[simp] theorem State.leaveHandler_resolving : s.leaveHandler.resolving = s.resolving := rfl
@[simp] theorem State.leaveHandler_dec : s.leaveHandler.dec = s.dec := rfl
@[simp] theorem State.leaveHandler_out : s.leaveHandler.out = s.out := rfl
@[simp] theorem State.leaveHandler_rxAvail : s.leaveHandler.rxAvail = s.rxAvail := rfl
@[simp] theorem State.leaveHandler_trace : s.leaveHandler.trace = s.trace := rfl
@[simp] theorem State.leaveHandler_port : s.leaveHandler.port = s.port := rfl
@[simp] theorem State.leaveHandler_resp : s.leaveHandler.resp = s.resp := rfl
@[simp] theorem State.leaveHandler_turns : s.leaveHandler.turns = s.turns := rfl
@[simp] theorem State.leaveHandler_tick : s.leaveHandler.tick = s.tick := rfl
@[simp] theorem State.leaveHandler_flag : s.leaveHandler.flag = s.flag := rfl
@[simp] theorem State.leaveHandler_payload : s.leaveHandler.payload = s.payload := rfl
@[simp] theorem State.leaveHandler_occ : s.leaveHandler.occ = s.occ := rfl
@[simp] theorem State.leaveHandler_held : s.leaveHandler.held = s.held := rfl

@[simp] theorem pollNone_cfg : (pollNone s).cfg = s.cfg := rfl
@[simp] theorem pollNone_slot : (pollNone s).slot = s.slot := rfl
@[simp] theorem pollNone_head : (pollNone s).head = s.head := rfl
@[simp] theorem pollNone_tail : (pollNone s).tail = s.tail := rfl
@[simp] theorem pollNone_en : (pollNone s).en = s.en := rfl
@[simp] theorem pollNone_rpc : (pollNone s).rpc = s.rpc := rfl
@[simp] theorem pollNone_rb : (pollNone s).rb = s.rb := rfl
@[simp] theorem pollNone_ph : (pollNone s).ph = s.ph := rfl
@[simp] theorem pollNone_pt : (pollNone s).pt = s.pt := rfl
@[simp] theorem pollNone_seq : (pollNone s).seq = if s.chunk.isEmpty then .sleep else .feed := rfl
@[simp] theorem pollNone_cpc : (pollNone s).cpc = .c1 := rfl
@[simp] theorem pollNone_ct : (pollNone s).ct = s.ct := rfl
@[simp] theorem pollNone_ch : (pollNone s).ch = s.ch := rfl
@[simp] theorem pollNone_cb : (pollNone s).cb = s.cb := rfl
@[simp] theorem pollNone_chunk : (pollNone s).chunk = s.chunk := rfl
@[simp] theorem pollNone_resolving : (pollNone s).resolving = s.resolving := rfl
@[simp] theorem pollNone_dec : (pollNone s).dec = s.dec := rfl
@[simp] theorem pollNone_out : (pollNone s).out = s.out := rfl
@[simp] theorem pollNone_rxAvail : (pollNone s).rxAvail = s.rxAvail := rfl
@[simp] theorem pollNone_trace : (pollNone s).trace = s.trace := rfl
@[simp] theorem pollNone_port : (pollNone s).port = s.port := rfl
@[simp] theorem pollNone_resp : (pollNone s).resp = s.resp := rfl
@[simp] theorem pollNone_turns : (pollNone s).turns = s.turns := rfl
@[simp] theorem pollNone_tick : (pollNone s).tick = s.tick := rfl
@[simp] theorem pollNone_flag : (pollNone s).flag = s.flag := rfl
@[simp] theorem pollNone_payload : (pollNone s).payload = s.payload := rfl
@[simp] theorem pollNone_occ : (pollNone s).occ = s.occ := rfl
@[simp] theorem pollNone_held : (pollNone s).held = s.held := rfl

@[simp] theorem pollSome_cfg (b : Byte) : (pollSome b s).cfg = s.cfg := rfl
@[simp] theorem pollSome_slot (b : Byte) : (pollSome b s).slot = s.slot := rfl
@[simp] theorem pollSome_head (b : Byte) : (pollSome b s).head = s.head := rfl
@[simp] theorem pollSome_tail (b : Byte) : (pollSome b s).tail = s.tail := rfl
@[simp] theorem pollSome_en (b : Byte) : (pollSome b s).en = s.en := rfl
@[simp] theorem pollSome_rpc (b : Byte) : (pollSome b s).rpc = s.rpc := rfl
@[simp] theorem pollSome_rb (b : Byte) : (pollSome b s).rb = s.rb := rfl
@[simp] theorem pollSome_ph (b : Byte) : (pollSome b s).ph = s.ph := rfl
@[simp] theorem pollSome_pt (b : Byte) : (pollSome b s).pt = s.pt := rfl
@[simp] theorem pollSome_seq (b : Byte) : (pollSome b s).seq = if s.chunk.length + 1 = s.cfg.chunkMax then .feed else .poll := rfl
@[simp] theorem pollSome_cpc (b : Byte) : (pollSome b s).cpc = .c1 := rfl
@[simp] theorem pollSome_ct (b : Byte) : (pollSome b s).ct = s.ct := rfl
@[simp] theorem pollSome_ch (b : Byte) : (pollSome b s).ch = s.ch := rfl
@[simp] theorem pollSome_cb (b : Byte) : (pollSome b s).cb = s.cb := rfl
@[simp] theorem pollSome_chunk (b : Byte) : (pollSome b s).chunk = s.chunk ++ [b] := rfl
@[simp] theorem pollSome_resolving (b : Byte) : (pollSome b s).resolving = s.resolving := rfl
@[simp] theorem pollSome_dec (b : Byte) : (pollSome b s).dec = s.dec := rfl
@[simp] theorem pollSome_out (b : Byte) : (pollSome b s).out = s.out := rfl
@[simp] theorem pollSome_rxAvail (b : Byte) : (pollSome b s).rxAvail = s.rxAvail := rfl
@[simp] theorem pollSome_trace (b : Byte) : (pollSome b s).trace = s.trace := rfl
@[simp] theorem pollSome_port (b : Byte) : (pollSome b s).port = s.port := rfl
@[simp] theorem pollSome_resp (b : Byte) : (pollSome b s).resp = s.resp := rfl
@[simp] theorem pollSome_turns (b : Byte) : (pollSome b s).turns = s.turns := rfl
@[simp] theorem pollSome_tick (b : Byte) : (pollSome b s).tick = s.tick := rfl
@[simp] theorem pollSome_flag (b : Byte) : (pollSome b s).flag = s.flag := rfl
@[simp] theorem pollSome_payload (b : Byte) : (pollSome b s).payload = s.payload := rfl
@[simp] theorem pollSome_occ (b : Byte) : (pollSome b s).occ = s.occ := rfl
@[simp] theorem pollSome_held (b : Byte) : (pollSome b s).held = s.held := rfl

end Sys2Proof.Machine
end

