-- ==== Sys2Proof/Laws/During.lean ====
section
/-! SUPPORT. What arrivals inside a command write and leave, and the two outcomes of a `try_send` with arrivals inside. -/

namespace Sys2Proof.Machine

variable (s : State) (bs : List Byte)

@[simp] theorem lineArrives_cfg : (lineArrives bs s).cfg = s.cfg := rfl
@[simp] theorem lineArrives_slot : (lineArrives bs s).slot = s.slot := rfl
@[simp] theorem lineArrives_head : (lineArrives bs s).head = s.head := rfl
@[simp] theorem lineArrives_tail : (lineArrives bs s).tail = s.tail := rfl
@[simp] theorem lineArrives_en : (lineArrives bs s).en = s.en := rfl
@[simp] theorem lineArrives_rpc : (lineArrives bs s).rpc = s.rpc := rfl
@[simp] theorem lineArrives_rb : (lineArrives bs s).rb = s.rb := rfl
@[simp] theorem lineArrives_ph : (lineArrives bs s).ph = s.ph := rfl
@[simp] theorem lineArrives_pt : (lineArrives bs s).pt = s.pt := rfl
@[simp] theorem lineArrives_seq : (lineArrives bs s).seq = s.seq := rfl
@[simp] theorem lineArrives_cpc : (lineArrives bs s).cpc = s.cpc := rfl
@[simp] theorem lineArrives_ct : (lineArrives bs s).ct = s.ct := rfl
@[simp] theorem lineArrives_ch : (lineArrives bs s).ch = s.ch := rfl
@[simp] theorem lineArrives_cb : (lineArrives bs s).cb = s.cb := rfl
@[simp] theorem lineArrives_chunk : (lineArrives bs s).chunk = s.chunk := rfl
@[simp] theorem lineArrives_resolving : (lineArrives bs s).resolving = s.resolving := rfl
@[simp] theorem lineArrives_dec : (lineArrives bs s).dec = s.dec := rfl
@[simp] theorem lineArrives_out : (lineArrives bs s).out = s.out := rfl
@[simp] theorem lineArrives_port : (lineArrives bs s).port = s.port := rfl
@[simp] theorem lineArrives_resp : (lineArrives bs s).resp = s.resp := rfl
@[simp] theorem lineArrives_turns : (lineArrives bs s).turns = s.turns := rfl
@[simp] theorem lineArrives_tick : (lineArrives bs s).tick = s.tick := rfl
@[simp] theorem lineArrives_flag : (lineArrives bs s).flag = s.flag := rfl
@[simp] theorem lineArrives_payload : (lineArrives bs s).payload = s.payload := rfl
@[simp] theorem lineArrives_occ : (lineArrives bs s).occ = s.occ := rfl
@[simp] theorem lineArrives_held : (lineArrives bs s).held = s.held := rfl
@[simp] theorem lineArrives_rxAvail : (lineArrives bs s).rxAvail = s.rxAvail ++ bs := rfl
@[simp] theorem lineArrives_trace : (lineArrives bs s).trace = s.trace ++ bs.map .arrive := rfl

@[simp] theorem lineArrives_nil : lineArrives [] s = s := by simp [lineArrives]

/-- Arrivals at one point are `LINE.arrive` of each byte in turn (rule R141). -/
theorem lineArrives_cons (b : Byte) : lineArrives (b :: bs) s = lineArrives bs (lineArrive b s) := by
  simp [lineArrives, lineArrive, State.setRx, State.record]

theorem arriveNext_eq (gaps : List (List Byte)) : arriveNext gaps s = lineArrives (gaps.headD []) s := rfl

@[simp] theorem arriveNext_nil : arriveNext [] s = s := lineArrives_nil s

/-- `try_send` on a full FIFO with arrivals inside. -/
theorem trySendDuring_full {s : State} (b : Byte) (gaps : List (List Byte)) (h : s.fullBy s.head = true) :
    trySendDuring b gaps s =
      ((arriveNext gaps (s.latchRb b).latchPh).latchPt.record (.drop b), false, gaps.tail) := by
  have : ((arriveNext gaps (s.latchRb b).latchPh).latchPt).fullBy s.head = true := h
  simp [trySendDuring, this]

/-- `try_send` with room and arrivals inside. -/
theorem trySendDuring_room {s : State} (b : Byte) (gaps : List (List Byte)) (h : s.fullBy s.head = false) :
    trySendDuring b gaps s =
      (((arriveNext (gaps.drop 2) ((arriveNext gaps.tail (arriveNext gaps (s.latchRb b).latchPh).latchPt).storeSlot
        s.tail b)).publish s.tail).record (.enq b), true, gaps.drop 3) := by
  have : ((arriveNext gaps (s.latchRb b).latchPh).latchPt).fullBy s.head = false := h
  simp [trySendDuring, this]

end Sys2Proof.Machine
end

