-- ==== Sys2Proof/Laws/Memory.lean ====
section
/-! SUPPORT. Slot storage: a read after a write, and the canonical form. -/

namespace Sys2Proof.Machine

/-- A slot read after a write gives the byte written. -/
@[simp] theorem Memory.read_write_same (m : Memory) (i : Nat) (b : Byte) : (m.write i b).read i = some b := by
  induction m with
  | nil => simp [Memory.write, Memory.read]
  | cons c m ih =>
    obtain ⟨i', b'⟩ := c
    simp only [Memory.write]
    split
    · simp [Memory.read]
    · split
      · simp [Memory.read]
      · simp [Memory.read, *]

/-- A write leaves every other slot alone. -/
theorem Memory.read_write_other (m : Memory) {i j : Nat} (b : Byte) (h : j ≠ i) :
    (m.write i b).read j = m.read j := by
  induction m with
  | nil => simp [Memory.write, Memory.read, h]
  | cons c m ih =>
    obtain ⟨i', b'⟩ := c
    simp only [Memory.write]
    split
    · simp [Memory.read, h]
    · split
      · rename_i hi
        simp [Memory.read, h, ← hi]
      · simp [Memory.read, ih]

theorem Memory.risesAbove_write (m : Memory) {lo i : Nat} (b : Byte) (hm : m.risesAbove lo = true) (h : lo < i) :
    (m.write i b).risesAbove lo = true := by
  induction m generalizing lo with
  | nil => simp [Memory.write, Memory.risesAbove, h]
  | cons c m ih =>
    obtain ⟨i', b'⟩ := c
    simp only [Memory.risesAbove, Bool.and_eq_true, decide_eq_true_eq] at hm
    simp only [Memory.write]
    split
    · simp [Memory.risesAbove, *]
    · split
      · rename_i hi
        subst hi
        simp [Memory.risesAbove, h, hm.2]
      · simp only [Memory.risesAbove, Bool.and_eq_true, decide_eq_true_eq]
        exact ⟨hm.1, ih hm.2 (by omega)⟩

/-- A write keeps the canonical form. -/
theorem Memory.wf_write (m : Memory) (i : Nat) (b : Byte) (hm : m.wf = true) : (m.write i b).wf = true := by
  cases m with
  | nil => simp [Memory.write, Memory.wf, Memory.risesAbove]
  | cons c m =>
    obtain ⟨i', b'⟩ := c
    simp only [Memory.wf] at hm
    simp only [Memory.write]
    split
    · simp [Memory.wf, Memory.risesAbove, *]
    · split
      · rename_i hi
        subst hi
        simpa [Memory.wf] using hm
      · exact Memory.risesAbove_write m b hm (by omega)

/-- A write to a slot of the array lists no index outside it. -/
theorem Memory.within_write (m : Memory) {cap i : Nat} (b : Byte) (hm : m.within cap = true) (h : i < cap) :
    (m.write i b).within cap = true := by
  induction m with
  | nil => simp [Memory.write, Memory.within, h]
  | cons c m ih =>
    obtain ⟨i', b'⟩ := c
    simp only [Memory.within, List.all_cons, Bool.and_eq_true, decide_eq_true_eq] at hm
    simp only [Memory.write]
    split
    · simp only [Memory.within, List.all_cons, Bool.and_eq_true, decide_eq_true_eq]
      exact ⟨h, hm⟩
    · split
      · simp only [Memory.within, List.all_cons, Bool.and_eq_true, decide_eq_true_eq]
        exact ⟨h, hm.2⟩
      · simp only [Memory.within, List.all_cons, Bool.and_eq_true, decide_eq_true_eq]
        exact ⟨hm.1, ih hm.2⟩

/-- The canonical form of reset memory. -/
theorem reset_slot_wf (p : Params) : (State.resetWith p).slot.wf = true := rfl

end Sys2Proof.Machine
end

