-- ==== Sys2Proof/Laws/Held.lean ====
section
/-! SUPPORT. What the writes of the micro-steps do to the bytes held (rules R24, R67, R134). -/

namespace Sys2Proof.Machine

@[simp] theorem held_length (s : State) : s.held.length = s.occ := by simp [State.held]

theorem held_getElem (s : State) {k : Nat} (h : k < s.held.length) :
    s.held[k] = s.slot.read ((s.head + k) % s.cfg.cap) := by simp [State.held]

/-- A store to the slot `TAIL` names, while the FIFO is not full, changes no byte held. -/
theorem held_storeSlot_tail {s : State} (b : Byte) (hh : s.head < 2 * s.cfg.cap) (ht : s.tail < 2 * s.cfg.cap)
    (hocc : s.occ < s.cfg.cap) : (s.storeSlot s.tail b).held = s.held := by
  simp only [State.held, State.storeSlot_occ, State.storeSlot_slot, State.storeSlot_head, State.storeSlot_cfg]
  apply List.map_congr_left
  intro k hk
  have hk : k < s.occ := List.mem_range.mp hk
  apply Memory.read_write_other
  rw [slotIndex_tail ht hh]
  exact slot_offset_ne (by omega) hocc (by show k ≠ s.occ; omega)

/-- A publish makes the byte in the slot `TAIL` names the newest byte held. -/
theorem occ_publish_tail {s : State} (hh : s.head < 2 * s.cfg.cap) (ht : s.tail < 2 * s.cfg.cap)
    (hocc : s.occ < s.cfg.cap) : (s.publish s.tail).occ = s.occ + 1 :=
  cursorDist_inc_left ht hh (by show s.occ + 1 < 2 * s.cfg.cap; omega)

theorem held_publish_tail {s : State} (hh : s.head < 2 * s.cfg.cap) (ht : s.tail < 2 * s.cfg.cap)
    (hocc : s.occ < s.cfg.cap) :
    (s.publish s.tail).held = s.held ++ [s.slot.read (slotIndex s.cfg.cap s.tail)] := by
  have h := occ_publish_tail hh ht hocc
  simp only [State.held, h, List.range_succ, List.map_append, List.map_cons, List.map_nil, State.publish_slot,
    State.publish_head, State.publish_cfg]
  rw [slotIndex_tail ht hh]
  rfl

/-- A release removes the oldest byte held. -/
theorem occ_release_head {s : State} (hh : s.head < 2 * s.cfg.cap) (ht : s.tail < 2 * s.cfg.cap)
    (h : s.head ≠ s.tail) : (s.release s.head).occ + 1 = s.occ :=
  cursorDist_inc_right ht hh (Ne.symm h)

theorem held_release_head {s : State} (hh : s.head < 2 * s.cfg.cap) (ht : s.tail < 2 * s.cfg.cap)
    (h : s.head ≠ s.tail) :
    s.held = s.slot.read (slotIndex s.cfg.cap s.head) :: (s.release s.head).held := by
  have ho := occ_release_head hh ht h
  simp only [State.held, ← ho, List.range_succ_eq_map, List.map_cons, List.map_map, State.release_slot,
    State.release_head, State.release_cfg, slotIndex, Nat.add_zero]
  congr 1
  apply List.map_congr_left
  intro k _
  simp only [Function.comp, cursorInc]
  congr 1
  rw [← mod_two_mul_mod s.cfg.cap ((s.head + 1) % (2 * s.cfg.cap) + k), Nat.mod_add_mod, mod_two_mul_mod]
  congr 1
  omega

/-- The FIFO is empty exactly when the cursors are equal (rule R24). -/
theorem occ_eq_zero_iff {s : State} (hh : s.head < 2 * s.cfg.cap) (ht : s.tail < 2 * s.cfg.cap) :
    s.occ = 0 ↔ s.tail = s.head := cursorDist_eq_zero ht hh

end Sys2Proof.Machine
end

