-- ==== Sys2Proof/Laws/PerInstr.lean ====
section
/-! SUPPORT. Facts made per command. -/

namespace Sys2Proof.Laws.EncodedLength

/-- Rule R91: "A command's length is known from its opcode, and for format `V` from bytes 1 and 2". -/
def Statement (i : Instr) : Prop :=
  i.WellFormed = true →
    (encode i).length = commandLength ((encode i).getD 0 0) ((encode i).getD 1 0) ((encode i).getD 2 0)

theorem trySend (b : Byte) : Statement (.trySend b) := fun _ => rfl

theorem tryRecv : Statement .tryRecv := fun _ => rfl

theorem feed (bs : List Byte) : Statement (.feed bs) := by
  intro h
  have h : bs.length < 65536 := by simpa [Instr.WellFormed] using h
  have hc : countOf (BitVec.ofNat 8 (bs.length / 256)) (BitVec.ofNat 8 bs.length) = bs.length := by
    simp [countOf]
    omega
  simp [encode, countBytes, commandLength, hc]
  omega

theorem isReady : Statement .isReady := fun _ => rfl

theorem isFinish : Statement .isFinish := fun _ => rfl

theorem getPayload : Statement .getPayload := fun _ => rfl

theorem rxService : Statement .rxService := fun _ => rfl

theorem rxregRead : Statement .rxregRead := fun _ => rfl

theorem start : Statement .start := fun _ => rfl

end Sys2Proof.Laws.EncodedLength
end

