-- ==== Sys2Proof/Laws/Steps.lean ====
section
/-! SUPPORT. What each shared operation and each agent's step can do, said once: provers cite these instead of unfolding. -/

namespace Sys2Proof.Machine

theorem benchOnly_run {s : State} (h : s.en = true) (r : Result) : benchOnly s r = .refused .runMode := by
  simp [benchOnly, h]

theorem benchOnly_bench {s : State} (h : s.en = false) (r : Result) : benchOnly s r = r := by
  simp [benchOnly, h]

/-- A command that answers a next state ran in bench mode. -/
theorem benchOnly_next {s t : State} {r : Result} (h : benchOnly s r = .next t) : s.en = false ∧ r = .next t := by
  unfold benchOnly at h
  split at h
  · cases h
  · exact ⟨by simpa using ‹¬s.en = true›, h⟩

/-- `try_send` on a full FIFO (rule R125). -/
theorem trySendNow_full {s : State} (b : Byte) (h : s.fullBy s.head = true) :
    trySendNow b s = ((s.latchRb b).latchPh.latchPt.record (.drop b), false) := by
  have : ((s.latchRb b).latchPh.latchPt).fullBy s.head = true := h
  simp [trySendNow, this]

/-- `try_send` with room (rule R125). -/
theorem trySendNow_room {s : State} (b : Byte) (h : s.fullBy s.head = false) :
    trySendNow b s =
      (((((s.latchRb b).latchPh.latchPt).storeSlot s.tail b).publish s.tail).record (.enq b), true) := by
  have : ((s.latchRb b).latchPh.latchPt).fullBy s.head = false := h
  simp [trySendNow, this]

/-- Everything a step of `RXC` can do when it answers a next state. -/
theorem stepRxc_next {s t : State} (h : stepRxc s = .next t) :
    t = s ∨
    s.en = true ∧
      ((s.rpc = .rIdle ∧ s.rxAvail ≠ [] ∧ t = s.enterHandler) ∨
       (s.rpc = .rRead ∧ s.rxAvail = [] ∧ t = s.leaveHandler) ∨
       (s.rpc = .rRead ∧ ∃ b r, s.rxAvail = b :: r ∧ t = ((s.setRx r).latchRb b).goRpc .p1) ∨
       (s.rpc = .p1 ∧ t = s.latchPh.goRpc .p2) ∨
       (s.rpc = .p2 ∧ ∃ ph, s.ph = some ph ∧ s.fullBy ph = true ∧ t = (s.latchPt.recordRb .drop).goRpc .rRead) ∨
       (s.rpc = .p2 ∧ ∃ ph, s.ph = some ph ∧ s.fullBy ph = false ∧ t = s.latchPt.goRpc .p3) ∨
       (s.rpc = .p3 ∧ ∃ pt b, s.pt = some pt ∧ s.rb = some b ∧ t = (s.storeSlot pt b).goRpc .p4) ∨
       (s.rpc = .p4 ∧ ∃ pt, s.pt = some pt ∧ t = ((s.publish pt).recordRb .enq).goRpc .rRead)) := by
  unfold stepRxc at h
  split at h
  · rename_i he
    cases hr : s.rpc with
    | rIdle =>
      simp only [hr, stepREnter] at h
      split at h
      · exact .inl (by simpa using h.symm)
      · exact .inr ⟨he, .inl ⟨rfl, by simpa using ‹¬s.rxAvail.isEmpty = true›, by simpa using h.symm⟩⟩
    | rRead =>
      simp only [hr, stepRRead] at h
      split at h
      · rename_i b r hb
        exact .inr ⟨he, .inr (.inr (.inl ⟨rfl, b, r, hb, by simpa using h.symm⟩))⟩
      · exact .inr ⟨he, .inr (.inl ⟨rfl, ‹_›, by simpa using h.symm⟩)⟩
    | p1 =>
      simp only [hr, stepP1] at h
      exact .inr ⟨he, by simpa using h.symm⟩
    | p2 =>
      simp only [hr, stepP2] at h
      split at h
      · cases h
      · rename_i ph hp
        split at h
        · exact .inr ⟨he, .inr (.inr (.inr (.inr (.inl ⟨rfl, ph, hp, ‹_›, by simpa using h.symm⟩))))⟩
        · exact .inr ⟨he, .inr (.inr (.inr (.inr (.inr (.inl ⟨rfl, ph, hp, by simpa using ‹¬s.fullBy ph = true›,
            by simpa using h.symm⟩)))))⟩
    | p3 =>
      simp only [hr, stepP3] at h
      split at h
      · cases h
      · cases h
      · rename_i pt b hpt hrb
        exact .inr ⟨he, .inr (.inr (.inr (.inr (.inr (.inr (.inl ⟨rfl, pt, b, hpt, hrb, by simpa using h.symm⟩))))))⟩
    | p4 =>
      simp only [hr, stepP4] at h
      split at h
      · cases h
      · rename_i pt hpt
        exact .inr ⟨he, .inr (.inr (.inr (.inr (.inr (.inr (.inr ⟨rfl, pt, hpt, by simpa using h.symm⟩))))))⟩
  · exact .inl (by simpa using h.symm)

/-- Everything a micro-step of `POLL` can do when it answers a next state. -/
theorem stepPoll_next {s t : State} (h : stepPoll s = .next t) :
    (s.cpc = .c1 ∧ t = s.latchCt.goCpc .c2) ∨
    (s.cpc = .c2 ∧ s.ct = some s.head ∧ t = pollNone s.latchCh) ∨
    (s.cpc = .c2 ∧ ∃ ct, s.ct = some ct ∧ s.head ≠ ct ∧ t = s.latchCh.goCpc .c3) ∨
    (s.cpc = .c3 ∧ ∃ ch b, s.ch = some ch ∧ s.slot.read (slotIndex s.cfg.cap ch) = some b ∧ t = (s.latchCb b).goCpc .c4) ∨
    (s.cpc = .c4 ∧ ∃ ch b, s.ch = some ch ∧ s.cb = some b ∧ t = pollSome b ((s.release ch).record (.deq b))) := by
  unfold stepPoll at h
  cases hc : s.cpc with
  | c1 =>
    simp only [hc, stepC1] at h
    exact .inl ⟨rfl, by simpa using h.symm⟩
  | c2 =>
    simp only [hc, stepC2] at h
    split at h
    · cases h
    · rename_i ct hct
      split at h
      · rename_i heq
        exact .inr (.inl ⟨rfl, by rw [hct, heq], by simpa using h.symm⟩)
      · exact .inr (.inr (.inl ⟨rfl, ct, hct, ‹_›, by simpa using h.symm⟩))
  | c3 =>
    simp only [hc, stepC3] at h
    split at h
    · cases h
    · rename_i ch hch
      split at h
      · cases h
      · rename_i b hb
        exact .inr (.inr (.inr (.inl ⟨rfl, ch, b, hch, hb, by simpa using h.symm⟩)))
  | c4 =>
    simp only [hc, stepC4] at h
    split at h
    · cases h
    · cases h
    · rename_i ch b hch hcb
      exact .inr (.inr (.inr (.inr ⟨rfl, ch, b, hch, hcb, by simpa using h.symm⟩)))

/-- Everything a step of `CONS` can do when it answers a next state. -/
theorem stepCons_next {s t : State} (h : stepCons s = .next t) :
    t = s ∨
    s.consGate = true ∧
      ((s.seq = .poll ∧ stepPoll s = .next t) ∨
       (s.seq = .feed ∧ s.feedRefused s.chunk = false ∧ t = ((s.feedDec s.chunk).setChunk []).goSeq .check) ∨
       (s.seq = .check ∧ t = stepCheck s) ∨
       (s.seq = .flush ∧ t = stepFlush s)) := by
  unfold stepCons at h
  split at h
  · rename_i hg
    cases hs : s.seq with
    | idle => exact .inl (by simpa [hs] using h.symm)
    | poll => exact .inr ⟨hg, .inl ⟨rfl, by simpa [hs] using h⟩⟩
    | sleep => exact .inl (by simpa [hs] using h.symm)
    | feed =>
      simp only [hs, stepFeed] at h
      split at h
      · cases h
      · exact .inr ⟨hg, .inr (.inl ⟨rfl, by simpa using ‹¬s.feedRefused s.chunk = true›, by simpa using h.symm⟩)⟩
    | check => exact .inr ⟨hg, .inr (.inr (.inl ⟨rfl, by simpa [hs] using h.symm⟩))⟩
    | flush => exact .inr ⟨hg, .inr (.inr (.inr ⟨rfl, by simpa [hs] using h.symm⟩))⟩
  · exact .inl (by simpa using h.symm)

/-- `CHECK`, by the flag it sees (rule R197). -/
theorem stepCheck_eq (s : State) :
    (s.flag = .ready ∧ stepCheck s = ((s.emit s.payload).setResolving true).goSeq .flush) ∨
    (s.flag = .finished ∧ stepCheck s = (s.setResolving false).goSeq .poll) ∨
    (s.flag = .collecting ∧ stepCheck s = s.goSeq (if s.resolving then .flush else .poll)) := by
  unfold stepCheck
  cases hf : s.flag <;> simp

/-- A call answers a next state only as the one enabled step of the agent of its context, by that agent itself. -/
theorem stepCall_next {w : Caller} {c : Context} {op : CtxOp} {s t : State} (h : stepCall w c op s = .next t) :
    w = .own ∧ permits c op = true ∧
      ((c = .irq ∧ op ∈ rxcOps s ∧ stepRxc s = .next t) ∨ (c = .task ∧ op ∈ consOps s ∧ stepCons s = .next t)) := by
  cases w with
  | second => cases h
  | own =>
    simp only [stepCall] at h
    split at h
    · rename_i hp
      cases c with
      | irq =>
        simp only [stepOwnCall] at h
        split at h
        · exact ⟨rfl, hp, .inl ⟨rfl, ‹_›, h⟩⟩
        · cases h
      | task =>
        simp only [stepOwnCall] at h
        split at h
        · exact ⟨rfl, hp, .inr ⟨rfl, ‹_›, h⟩⟩
        · cases h
    · cases h

/-- Everything the taking of a command can do when it answers a next state. -/
theorem takeCommand_next {run : Instr → State → Result} {s t : State} (h : takeCommand run s = .next t) :
    t = s ∨ ∃ i rest, decode s.port = .ok (i, rest) ∧ run i { s with port := rest } = .next t := by
  unfold takeCommand fetch at h
  cases hd : decode s.port with
  | ok v =>
    obtain ⟨i, rest⟩ := v
    simp only [hd] at h
    exact .inr ⟨i, rest, rfl, h⟩
  | error e =>
    simp only [hd] at h
    cases e with
    | empty => exact .inl (by simpa using h.symm)
    | reservedOpcode => cases h
    | truncated => cases h

/-- Everything one turn can do when it answers a next state. -/
theorem takeTurn_next {tn : Turn} {s t : State} (h : takeTurn tn s = .next t) :
    (∃ b, tn = .arrive b ∧ t = lineArrive b s) ∨
    (tn = .wake ∧ t = stepWake s) ∨
    (∃ bs, tn = .issue bs ∧ t = hostIssue bs s) ∨
    stepRxc s = .next t ∨
    stepCons s = .next t ∨
    (tn = .host ∧ (t = s ∨ ∃ i rest, decode s.port = .ok (i, rest) ∧ exec i { s with port := rest } = .next t)) ∨
    (∃ gaps, tn = .hostDuring gaps ∧
      (t = s ∨ ∃ i rest, decode s.port = .ok (i, rest) ∧ execDuring i gaps { s with port := rest } = .next t)) := by
  cases tn with
  | arrive b => exact .inl ⟨b, rfl, by simpa [takeTurn] using h.symm⟩
  | wake => exact .inr (.inl ⟨rfl, by simpa [takeTurn] using h.symm⟩)
  | rxc => exact .inr (.inr (.inr (.inl h)))
  | cons => exact .inr (.inr (.inr (.inr (.inl h))))
  | issue bs => exact .inr (.inr (.inl ⟨bs, rfl, by simpa [takeTurn] using h.symm⟩))
  | host => exact .inr (.inr (.inr (.inr (.inr (.inl ⟨rfl, takeCommand_next h⟩)))))
  | hostDuring gaps => exact .inr (.inr (.inr (.inr (.inr (.inr ⟨gaps, rfl, takeCommand_next h⟩)))))
  | call w c op =>
    obtain ⟨-, -, ⟨-, -, h'⟩ | ⟨-, -, h'⟩⟩ := stepCall_next h
    · exact .inr (.inr (.inr (.inl h')))
    · exact .inr (.inr (.inr (.inr (.inl h'))))

/-- The choice of a turn touches only the schedule and the counter of free turns. -/
theorem nextTurn_state (s : State) : ∃ ts k, (nextTurn s).2 = { s with turns := ts, tick := k } := by
  unfold nextTurn
  split
  · exact ⟨_, s.tick, rfl⟩
  · exact ⟨s.turns, s.tick + 1, rfl⟩

end Sys2Proof.Machine
end

