-- ==== Sys2Proof/Tests/Slice0.lean ====
section
/-! SUPPORT. Tests against the spec's own words and vectors (30_encoding.md R101; 95_test_vectors.md), the smoke test of
WellFormed, and for each statement with hypotheses a concrete witness of them. -/

namespace Sys2Proof.Tests

open Sys2Proof.Machine

/-! ### Helpers -/

/-- A view of the next state, or nothing where a step stops. -/
def nextView {α : Type} (r : Result) (f : State → α) : Option α :=
  match r with
  | .next s => some (f s)
  | .fault _ => none
  | .refused _ => none

/-- The refusal a step ends in. -/
def refusalOf (r : Result) : Option Refusal :=
  match r with
  | .next _ => none
  | .fault _ => none
  | .refused x => some x

/-- Small parameters: `C = CHUNK_MAX = n + 1`, `irq_atomic`, `REFCODEC`. -/
def small (n : Fin 65535) : Params :=
  { capPred := n, chunkMaxPred := n, preempt := .irqAtomic, codec := .reference, headerSize := 0 }

/-- Bench mode with `C = 4`, from reset. -/
def bench : State := State.resetWith (small 3)

/-- Bench mode with the bytes of vector V3 (`HEAD = 5`, `TAIL = 7`, `SLOT = [16 17 18 14]`). -/
def v3 : State := { bench with head := 5, tail := 7, slot := [(0, 0x16), (1, 0x17), (2, 0x18), (3, 0x14)] }

/-- Bench mode with a full FIFO. -/
def full : State := { bench with head := 0, tail := 4, slot := [(0, 0x11), (1, 0x12), (2, 0x13), (3, 0x14)] }

/-- Bench mode with `C = 8`, `REFCODEC`, after feeding the frame of `[DE AD]`: ready. -/
def ready : State := { State.resetWith (small 7) with dec := [[0x02, 0xDE, 0xAD, 0x8D]] }

/-- Run mode with `C = 4`, polling. -/
def run : State := { bench with en := true, seq := .poll }

/-! ### WellFormed and the encoding -/

theorem test_feed_of_65536_bytes_is_ill_formed : (Instr.feed (List.replicate 65536 0)).WellFormed = false := by
  show decide ((List.replicate 65536 (0 : Byte)).length < 65536) = false
  rw [List.length_replicate]
  decide

theorem test_feed_of_65535_bytes_is_well_formed : (Instr.feed (List.replicate 65535 0)).WellFormed = true := by
  show decide ((List.replicate 65535 (0 : Byte)).length < 65536) = true
  rw [List.length_replicate]
  decide

/-- E1, E2: the words of `TRY_SEND`. -/
theorem test_decode_trySend : decode [0x01, 0x41] = .ok (.trySend 0x41, []) ∧ decode [0x01, 0xFF] = .ok (.trySend 0xFF, []) := by
  decide

/-- E3: the one-byte words. -/
theorem test_decode_one_byte_commands :
    decode [0x02] = .ok (.tryRecv, []) ∧ decode [0x11] = .ok (.isReady, []) ∧ decode [0x12] = .ok (.isFinish, []) ∧
    decode [0x13] = .ok (.getPayload, []) ∧ decode [0x20] = .ok (.rxService, []) ∧
    decode [0x21] = .ok (.rxregRead, []) ∧ decode [0x30] = .ok (.start, []) := by decide

/-- E4, E5: the words of `FEED`. -/
theorem test_decode_feed :
    decode [0x10, 0x00, 0x04, 0x02, 0xDE, 0xAD, 0x8D] = .ok (.feed [0x02, 0xDE, 0xAD, 0x8D], []) ∧
    decode [0x10, 0x00, 0x00] = .ok (.feed [], []) := by decide

/-- E6: the count of 300 bytes is `01 2C`, high byte first. -/
theorem test_count_high_byte_first : countBytes 300 = [0x01, 0x2C] ∧ countOf 0x01 0x2C = 300 := by decide

/-- E7, E8: reserved opcodes at the edges of the map's gaps. -/
theorem test_reserved_opcodes :
    ∀ op ∈ [(0x00 : Byte), 0x03, 0x0F, 0x14, 0x1F, 0x22, 0x2F, 0x31, 0xFF], decode [op] = .error .reservedOpcode := by decide

/-- E9: a `FEED` cut short. -/
theorem test_truncated_feed : decode [0x10, 0x00, 0x03, 0xAA, 0xBB] = .error .truncated := by decide

/-- E10: the length comes from the opcode. -/
theorem test_stream_of_two : decode [0x01, 0x02, 0x02] = .ok (.trySend 0x02, [0x02]) := by decide

/-- The opcode table's numbering: the second byte is bits 15..8; a `FEED` of no bytes. -/
theorem test_decodeTableWord :
    decodeTableWord 16 0x4101 = some (.trySend 0x41) ∧ decodeTableWord 24 0x10 = some (.feed []) ∧
    decodeTableWord 8 0x30 = some .start ∧ decodeTableWord 24 0x020010 = some (.feed [0, 0]) := by decide

/-- No two rows of the opcode map share an opcode. -/
theorem test_opcodes_distinct : (opcodeMap.map OpcodeRow.opcode).Nodup := by decide

/-- E11: responses. -/
theorem test_responses : respOption (some 0x00) = [0x01, 0x00] ∧ respPayload [] = [0x00, 0x00] := by decide

/-! ### The commands: one step each -/

/-- Rule R125's example, through the command port. -/
theorem test_step_trySend :
    nextView (step (bench.withFetchWord 16 0x4101)) (fun t => (t.slot, t.tail, t.resp)) = some ([(0, 0x41)], 1, [0x01]) := by
  decide

/-- P1 row 6: a full FIFO answers `false` and keeps its bytes. -/
theorem test_trySend_full :
    nextView (exec (.trySend 0x15) full) (fun t => (t.slot, t.tail, t.resp)) = some (full.slot, 4, [0x00]) := by decide

/-- P1 row 17: the byte after the wrap; `HEAD` moves on. -/
theorem test_tryRecv : nextView (exec .tryRecv v3) (fun t => (t.head, t.resp)) = some (6, [0x01, 0x17]) := by decide

/-- P1 row 1. -/
theorem test_tryRecv_empty : nextView (exec .tryRecv bench) (fun t => (t.head, t.resp)) = some (0, [0x00, 0x00]) := by decide

/-- Rule R163's example. -/
theorem test_feed_reaches_ready :
    nextView (exec (.feed [0x02, 0xDE, 0xAD, 0x8D]) (State.resetWith (small 7))) (fun t => (t.flag, t.payload)) =
      some (.ready, [0xDE, 0xAD]) := by decide

/-- A4, A5: a non-empty feed while ready is refused, an empty one is not. -/
theorem test_feed_while_ready :
    refusalOf (exec (.feed [0x01]) ready) = some .feedWhileReady ∧
    nextView (exec (.feed []) ready) (fun t => t.flag) = some .finished := by decide

/-- P3 rows 7, 8. -/
theorem test_observers :
    nextView (exec .isReady ready) (fun t => t.resp) = some [0x01] ∧
    nextView (exec .isFinish ready) (fun t => t.resp) = some [0x00] := by decide

/-- P3 row 9, and A2. -/
theorem test_getPayload :
    nextView (exec .getPayload ready) (fun t => t.resp) = some [0x00, 0x02, 0xDE, 0xAD] ∧
    refusalOf (exec .getPayload bench) = some .payloadNotReady := by decide

/-- X4: six bytes waiting, four stored, two dropped. -/
theorem test_rxService :
    nextView (exec .rxService { bench with rxAvail := [1, 2, 3, 4, 5, 6] })
        (fun t => (t.tail, t.slot, t.rxAvail, t.trace.drop 4)) =
      some (4, [(0, 1), (1, 2), (2, 3), (3, 4)], [], [.drop 5, .drop 6]) := by decide

/-- X2, X3. -/
theorem test_rxregRead :
    nextView (exec .rxregRead { bench with rxAvail := [0x41, 0x42] }) (fun t => (t.rxAvail, t.resp)) =
      some ([0x42], [0x01, 0x41]) ∧
    nextView (exec .rxregRead bench) (fun t => t.resp) = some [0x00, 0x00] := by decide

/-- Q3 and E13. -/
theorem test_start :
    nextView (exec .start bench) (fun t => (t.en, t.seq, t.cpc)) = some (true, .poll, .c1) ∧
    refusalOf (exec .start run) = some .runMode := by decide

/-- V2 (`C = 1`): full at one byte, and the cursor's wrap `1 -> 0`. -/
theorem test_capacity_one :
    nextView (exec (.trySend 0xBB) { State.resetWith (small 0) with tail := 1, slot := [(0, 0xAA)] })
        (fun t => (t.tail, t.resp)) = some (1, [0x00]) ∧
    nextView (exec (.trySend 0xCC) { State.resetWith (small 0) with head := 1, tail := 1, slot := [(0, 0xAA)] })
        (fun t => (t.tail, t.slot)) = some (0, [(0, 0xCC)]) := by decide

/-- X4 with rule R99's exception: the byte 2 arrives after the `P4` of the byte 1, and the same run serves it. -/
theorem test_arrival_inside_rxService :
    nextView (execDuring .rxService [[], [], [], [], [], [2]] { bench with rxAvail := [1] })
        (fun t => (t.tail, t.rxAvail, t.trace)) = some (2, [], [.enq 1, .arrive 2, .enq 2]) := by decide

/-- Rule R99: a byte arrives between `C1` and `C2` of a `TRY_RECV`, touching only `RXAVAIL`. -/
theorem test_arrival_inside_tryRecv :
    nextView (takeTurn (.hostDuring [[0x55]]) { v3 with port := [0x02] }) (fun t => (t.head, t.resp, t.rxAvail)) =
      some (6, [0x01, 0x17], [0x55]) := by decide

/-! ### The agents' steps -/

/-- V3: `P1` to `P4`. -/
theorem test_producer_micro_steps :
    nextView (iterate stepRxc 4 { v3 with en := true, seq := .poll, rpc := .p1, rb := some 0x19 })
        (fun t => (t.slot, t.tail, t.trace)) =
      some ([(0, 0x16), (1, 0x17), (2, 0x18), (3, 0x19)], 0, [.enq 0x19]) := by decide

/-- V3: `C1` to `C4`. -/
theorem test_consumer_micro_steps :
    nextView (iterate stepCons 4 { v3 with en := true, seq := .poll }) (fun t => (t.ct, t.ch, t.cb, t.head, t.chunk)) =
      some (some 7, some 5, some 0x17, 6, [0x17]) := by decide

/-- V4: the full test at its boundary, `C = 4`. -/
theorem test_full_boundary :
    cursorDist 4 6 2 = 4 ∧ cursorDist 4 5 2 = 3 ∧ cursorDist 4 2 6 = 4 ∧ cursorDist 4 0 7 = 1 ∧ cursorDist 4 0 0 = 0 := by
  decide

/-- X8: one handler run with two bytes waiting takes 12 steps. -/
theorem test_handler_run_of_two :
    nextView (iterate stepRxc 12 { run with rxAvail := [0x02, 0xDE] }) (fun t => (t.rpc, t.tail, t.slot)) =
      some (.rIdle, 2, [(0, 0x02), (1, 0xDE)]) ∧
    nextView (iterate stepRxc 11 { run with rxAvail := [0x02, 0xDE] }) (fun t => t.rpc) = some .rRead := by decide

/-- V6 row 8, `free_interleave`: a stale `PH` drops a byte although the slot was freed. -/
theorem test_stale_head_drops :
    nextView (stepRxc { State.resetWith { small 0 with preempt := .freeInterleave } with
        en := true, seq := .feed, head := 1, tail := 1, rpc := .p2, ph := some 0, rb := some 0xBB })
      (fun t => (t.trace, t.rpc)) = some ([.drop 0xBB], .rRead) := by decide

/-- Rules R66, R202: behind a running handler the consumer has no step under `irq_atomic`, and one under
`free_interleave`. -/
theorem test_gate :
    nextView (stepCons { run with rpc := .p1 }) (fun t => t.cpc) = some .c1 ∧
    nextView (stepCons { run with rpc := .p1, cfg := { small 3 with preempt := .freeInterleave } }) (fun t => t.cpc) =
      some .c2 := by decide

/-- Q2d: the chunk fills and is fed without a `none` poll first. -/
theorem test_poll_fills_chunk :
    nextView (stepCons { run with cpc := .c4, ch := some 0, cb := some 0x44, chunk := [0x41, 0x42, 0x43], tail := 1 })
      (fun t => (t.chunk, t.seq)) = some ([0x41, 0x42, 0x43, 0x44], .feed) := by decide

/-- Q2a, Q2b. -/
theorem test_poll_none :
    nextView (stepCons { run with cpc := .c2, ct := some 0 }) (fun t => t.seq) = some .sleep ∧
    nextView (stepCons { run with cpc := .c2, ct := some 0, chunk := [0x41] }) (fun t => t.seq) = some .feed := by decide

/-- Q1a: `CHECK` sees `ready`. -/
theorem test_check_ready :
    nextView (stepCons { ready with en := true, seq := .check }) (fun t => (t.out, t.resolving, t.seq)) =
      some ([[0xDE, 0xAD]], true, .flush) := by decide

/-- Q1f, Q1e, by the scripted codec of P5 after two feeds. -/
theorem test_check_collecting :
    let p : Params := { small 3 with codec := .script [(.ready, [1]), (.collecting, []), (.ready, [2]), (.finished, [])] }
    let s : State := { State.resetWith p with en := true, seq := .check, dec := [[0x55], []] }
    nextView (stepCons { s with resolving := true }) (fun t => t.seq) = some .flush ∧
    nextView (stepCons s) (fun t => t.seq) = some .poll := by decide

/-- Q1c: `finished` ends the resolving. -/
theorem test_check_finished :
    nextView (stepCons { ready with en := true, seq := .check, resolving := true, dec := ready.dec ++ [[]] })
      (fun t => (t.resolving, t.seq, t.out)) = some (false, .poll, []) := by decide

/-- Q5. -/
theorem test_feed_step :
    nextView (stepCons { State.resetWith (small 7) with en := true, seq := .feed, chunk := [0x02, 0xDE, 0xAD, 0x8D] })
      (fun t => (t.flag, t.chunk, t.seq, t.trace)) = some (.ready, [], .check, [.fed [0x02, 0xDE, 0xAD, 0x8D]]) := by decide

/-- Q4: the sleep is ended by a wake, not by an arrival. -/
theorem test_sleep :
    nextView (takeTurn (.arrive 0x55) { run with seq := .sleep }) (fun t => t.seq) = some .sleep ∧
    nextView (takeTurn .wake { run with seq := .sleep }) (fun t => t.seq) = some .poll := by decide

/-- Rules R135, R229: `try_send` from the task context; the consumer's `try_recv` while it feeds; a second consumer's
`try_recv`, and a second producer's `try_send`, while the owner is at that very operation. -/
theorem test_role :
    refusalOf (takeTurn (.call .own .task .trySend) run) = some .role ∧
    refusalOf (takeTurn (.call .own .task .tryRecv) { run with seq := .feed, chunk := [1] }) = some .role ∧
    refusalOf (takeTurn (.call .second .task .tryRecv) run) = some .role ∧
    nextView (takeTurn (.call .own .task .tryRecv) run) (fun t => t.cpc) = some .c2 ∧
    refusalOf (takeTurn (.call .second .irq .trySend) { run with rpc := .p1, rb := some 1 }) = some .role := by decide

/-- Rule R35: a latch never written. -/
theorem test_read_before_write :
    stepRxc { run with rpc := .p2 } = .fault (.latchUnwritten .ph) ∧
    stepCons { run with cpc := .c3, ch := some 0 } = .fault .slotUnwritten := ⟨rfl, rfl⟩

/-- S7: the message of the source's one log call. -/
theorem test_log_message : logMessage [0xDE, 0xAD] = "recv: [0xDE, 0xAD]".toList := by decide

/-! ### REFCODEC (V8, V9, V12, V13), `C = 8` -/

theorem test_refcodec_frames :
    refBuildFrame [0xDE, 0xAD] 0 = [0x02, 0xDE, 0xAD, 0x8D] ∧ refBuildFrame [] 0 = [0x00, 0x00] ∧
    refBuildFrame [0xFF, 0xFF, 0xFF, 0xFF, 0xFF, 0xFF] 0 = [0x06, 0xFF, 0xFF, 0xFF, 0xFF, 0xFF, 0xFF, 0x00] := by decide

theorem test_refcodec_rejects :
    refFeed 8 ⟨.finished, [], []⟩ [0x02, 0x01, 0x01, 0x05] = ⟨.collecting, [], []⟩ ∧
    refFeed 8 ⟨.collecting, [], []⟩ [0x07, 0x01, 0x41, 0x42] = ⟨.ready, [0x01, 0x41, 0x42], []⟩ := by decide

theorem test_refcodec_two_frames_in_one_chunk :
    refFeed 8 ⟨.collecting, [], []⟩ [0x01, 0xAA, 0xAB, 0x01, 0xBB, 0xBC] = ⟨.ready, [0x01, 0xAA, 0xAB], [0x01, 0xBB, 0xBC]⟩ ∧
    refFeed 8 ⟨.finished, [], [0x01, 0xBB, 0xBC]⟩ [] = ⟨.ready, [0x01, 0xBB, 0xBC], []⟩ := by decide

/-! ### Reset -/

theorem test_reset_slot_wf : State.reset.slot.wf = true := rfl

/-- With nothing placed, a command placed at reset is the first thing that runs. -/
theorem test_first_command_at_reset :
    ∃ t, step (State.reset.withFetchWord 8 0x30) = .next t ∧ t.en = true ∧ t.seq = .poll := ⟨_, rfl, rfl, rfl⟩

/-! ### Witnesses: for each statement with hypotheses, concrete states that meet them -/

theorem witness_DecodeOfEncodeGivesTheCommand : (Instr.feed [0x01, 0x02]).WellFormed = true := by decide

theorem witness_DecodedBytesAreTheEncoding : decode [0x10, 0x00, 0x01, 0xAA, 0x02] = .ok (.feed [0xAA], [0x02]) := by decide

theorem witness_BytesThatSpellNoCommandAreRefused :
    let s : State := { bench with turns := [.host], port := [0x03] }
    let s' : State := { bench with turns := [.hostDuring [[1]]], port := [0x10, 0xFF, 0xFF, 0xAA] }
    (s.turns = .host :: [] ∧ s.port = 0x03 :: [] ∧ ∀ row ∈ opcodeMap, row.opcode ≠ 0x03) ∧
    (s'.turns = .hostDuring [[1]] :: [] ∧ s'.port = 0x10 :: 0xFF :: 0xFF :: [0xAA] ∧ [0xAA].length < countOf 0xFF 0xFF) := by decide

theorem witness_ResponseCodes : ([0xDE, 0xAD] : List Byte).length < 65536 := by decide

theorem witness_StateCodes : 1 ≤ 65535 ∧ 2 * 65535 ≤ 2 ^ 17 ∧ 1 ≤ 1 ∧ 2 * 1 ≤ 2 ^ 1 := by decide

theorem witness_StepRunsTheDecodedCommand :
    let s : State := { bench with turns := [.host, .rxc], port := [0x01, 0x41, 0x02] }
    s.turns = .host :: [.rxc] ∧ decode s.port = .ok (.trySend 0x41, [0x02]) ∧
    ({ s with turns := [.hostDuring [[0x55]]] } : State).turns = .hostDuring [[0x55]] :: [] := by decide

theorem witness_StepTakesTheNextTurn :
    ({ bench with turns := [.rxc] } : State).turns = [.rxc] ∧ ({ bench with turns := [.cons] } : State).turns = [.cons] ∧
    ({ bench with turns := [.wake] } : State).turns = [.wake] ∧
    ({ bench with turns := [.arrive 1] } : State).turns = [.arrive 1] ∧
    ({ bench with turns := [.issue [2]] } : State).turns = [.issue [2]] ∧
    ({ bench with turns := [.call .own .task .trySend] } : State).turns = [.call .own .task .trySend] ∧
    (({ bench with turns := [.host] } : State).turns = [.host] ∧ bench.port = []) ∧
    ({ bench with turns := [.hostDuring []] } : State).turns = [.hostDuring []] ∧ bench.turns = [] := by decide

theorem witness_PlacedWordIsTheNextCommand : decodeTableWord 16 0xFF01 = some (.trySend 0xFF) := by decide

theorem witness_TrySendCommand :
    run.en = true ∧ (full.en = false ∧ cursorDist full.cfg.cap full.tail full.head = full.cfg.cap) ∧
    (v3.en = false ∧ cursorDist v3.cfg.cap v3.tail v3.head ≠ v3.cfg.cap) := by decide

theorem witness_TryRecvCommand :
    run.en = true ∧ (bench.en = false ∧ bench.head = bench.tail) ∧
    (v3.en = false ∧ v3.head ≠ v3.tail ∧ v3.slot.read (v3.head % v3.cfg.cap) = some 0x17) ∧
    (let s : State := { bench with tail := 1 }
     s.en = false ∧ s.head ≠ s.tail ∧ s.slot.read (s.head % s.cfg.cap) = none) := by decide

theorem witness_FeedCommand :
    countOf 0x00 0x02 = ([0xAA, 0xBB] : List Byte).length ∧ run.en = true ∧
    (ready.en = false ∧ ([0x01] : List Byte) ≠ [] ∧ ready.cfg.codecOf.flag (ready.cfg.codecOf.after ready.dec) = .ready) ∧
    (bench.en = false ∧ bench.cfg.codecOf.flag (bench.cfg.codecOf.after bench.dec) ≠ .ready) :=
  ⟨by decide, by decide, ⟨by decide, by decide, rfl⟩, by decide, by
    show Flag.collecting ≠ Flag.ready
    decide⟩

theorem witness_IsReadyCommand :
    run.en = true ∧ (ready.en = false ∧ ready.cfg.flagOf ready.dec = .ready) ∧
    (bench.en = false ∧ bench.cfg.flagOf bench.dec ≠ .ready) := by decide

theorem witness_IsFinishCommand :
    run.en = true ∧ (ready.en = false ∧ ready.cfg.flagOf (ready.dec ++ [[]]) = .finished) ∧
    (bench.en = false ∧ bench.cfg.flagOf bench.dec ≠ .finished) := by decide

theorem witness_GetPayloadCommand :
    run.en = true ∧ (bench.en = false ∧ bench.cfg.flagOf bench.dec ≠ .ready) ∧
    (ready.en = false ∧ ready.cfg.flagOf ready.dec = .ready) := by decide

theorem witness_RxregReadCommand :
    run.en = true ∧ (let s : State := { bench with rxAvail := [0x41, 0x42] }
      s.en = false ∧ s.rxAvail = 0x41 :: [0x42]) ∧ (bench.en = false ∧ bench.rxAvail = []) := by decide

theorem witness_RxServiceCommand :
    run.en = true ∧ (bench.en = false ∧ bench.rxAvail = []) ∧
    (let s : State := { full with rxAvail := [0x05] }
     s.en = false ∧ s.rxAvail = 0x05 :: [] ∧ cursorDist s.cfg.cap s.tail s.head = s.cfg.cap) ∧
    (let s : State := { v3 with rxAvail := [0x05] }
     s.en = false ∧ s.rxAvail = 0x05 :: [] ∧ cursorDist s.cfg.cap s.tail s.head ≠ s.cfg.cap) := by decide

theorem witness_StartCommand : run.en = true ∧ bench.en = false := by decide

theorem witness_RunModeRefusesEveryCommand : run.en = true := by decide

/-- One next state for every command, so that no case of the frame is empty. -/
theorem witness_CommandFrame :
    (∃ t, exec (.trySend 1) bench = .next t) ∧ (∃ t, exec .tryRecv v3 = .next t) ∧ (∃ t, exec (.feed [1]) bench = .next t) ∧
    (∃ t, exec .isReady bench = .next t) ∧ (∃ t, exec .isFinish bench = .next t) ∧
    (∃ t, exec .getPayload ready = .next t) ∧ (∃ t, exec .rxService bench = .next t) ∧
    (∃ t, exec .rxregRead bench = .next t) ∧ (∃ t, exec .start bench = .next t) :=
  ⟨⟨_, rfl⟩, ⟨_, rfl⟩, ⟨_, rfl⟩, ⟨_, rfl⟩, ⟨_, rfl⟩, ⟨_, rfl⟩, ⟨_, rfl⟩, ⟨_, rfl⟩, ⟨_, rfl⟩⟩

theorem witness_TrySendStoresToOneSlot :
    (∃ t, exec (.trySend 1) v3 = .next t) ∧ cursorDist v3.cfg.cap v3.tail v3.head ≠ v3.cfg.cap ∧
    (0 : Nat) ≠ slotIndex v3.cfg.cap v3.tail ∧ (∃ t, exec (.trySend 1) full = .next t) ∧
    cursorDist full.cfg.cap full.tail full.head = full.cfg.cap :=
  ⟨⟨_, rfl⟩, by decide, by decide, ⟨_, rfl⟩, by decide⟩

theorem witness_ObserversAreIdempotent : ∃ t, exec .getPayload ready = .next t := ⟨_, rfl⟩

theorem witness_ArrivalCommutesWithCommands :
    Instr.trySend 1 ≠ .rxService ∧ Instr.trySend 1 ≠ .rxregRead ∧ ∃ t, exec (.trySend 1) bench = .next t :=
  ⟨by decide, by decide, ⟨_, rfl⟩⟩

/-- A bench state meets the invariant when its cursors and slots do. -/
theorem inv_of_bench {s : State} (hen : s.en = false) (hrpc : s.rpc = .rIdle) (hseq : s.seq = .idle) (hcpc : s.cpc = .c1)
    (hch : s.chunk = []) (hres : s.resolving = false) (hl : s.ph = none ∧ s.pt = none ∧ s.ct = none ∧ s.ch = none)
    (h1 : s.head < 2 * s.cfg.cap ∧ s.tail < 2 * s.cfg.cap ∧ s.occ ≤ s.cfg.cap ∧ s.slot.wf = true ∧
      s.slot.within s.cfg.cap = true)
    (h2 : ∀ k, k < s.occ → (s.slot.read ((s.head + k) % s.cfg.cap)).isSome = true) : s.Inv where
  head_lt := h1.1
  tail_lt := h1.2.1
  occ_le := h1.2.2.1
  slot_wf := h1.2.2.2.1
  slot_within := h1.2.2.2.2
  held_written := h2
  latches_lt := by simp [State.LatchesInRange, hl]
  producer := by simp [State.ProducerOk, hrpc]
  consumer := by simp [State.ConsumerOk, hcpc]
  cpc_home := fun _ => hcpc
  loop := by simp [State.LoopOk, hseq, hch, hres]
  bench_seq := by simp [hen, hseq]
  bench_rpc := fun _ => hrpc

theorem inv_bench : bench.Inv :=
  inv_of_bench rfl rfl rfl rfl rfl rfl ⟨rfl, rfl, rfl, rfl⟩ (by decide) (by decide)

theorem inv_v3 : v3.Inv := inv_of_bench rfl rfl rfl rfl rfl rfl ⟨rfl, rfl, rfl, rfl⟩ (by decide) (by decide)

theorem inv_full : full.Inv := inv_of_bench rfl rfl rfl rfl rfl rfl ⟨rfl, rfl, rfl, rfl⟩ (by decide) (by decide)

theorem witness_FifoIsABoundedQueue :
    (v3.Inv ∧ v3.en = false ∧ v3.held.length < v3.cfg.cap ∧ v3.held = some 0x17 :: [some 0x18]) ∧
    (full.Inv ∧ full.en = false ∧ full.held.length = full.cfg.cap) ∧ (bench.Inv ∧ bench.en = false ∧ bench.held = []) :=
  ⟨⟨inv_v3, by decide, by decide, by decide⟩, ⟨inv_full, by decide, by decide⟩, inv_bench, by decide, by decide⟩

/-- `v3` with three bytes waiting, two of which fit. -/
def v3Waiting : State := { v3 with rxAvail := [1, 2, 3] }

theorem witness_RxServiceStoresUpToCapacity : v3Waiting.Inv ∧ v3Waiting.en = false :=
  ⟨inv_of_bench rfl rfl rfl rfl rfl rfl ⟨rfl, rfl, rfl, rfl⟩ (by decide) (by decide), rfl⟩

theorem witness_TrySendIsItsMicroSteps :
    (full.en = false ∧ full.rpc = .rIdle ∧ cursorDist full.cfg.cap full.tail full.head = full.cfg.cap) ∧
    (v3.en = false ∧ v3.rpc = .rIdle ∧ cursorDist v3.cfg.cap v3.tail v3.head ≠ v3.cfg.cap) := by decide

theorem witness_TryRecvIsItsMicroSteps :
    (bench.en = false ∧ bench.rpc = .rIdle ∧ bench.cpc = .c1 ∧ bench.head = bench.tail) ∧
    (v3.en = false ∧ v3.rpc = .rIdle ∧ v3.cpc = .c1 ∧ v3.head ≠ v3.tail ∧
      v3.slot.read (v3.head % v3.cfg.cap) = some 0x17) := by decide

/-- Run mode, `P2` with a full FIFO: the byte in `RB` is about to be dropped. -/
def atP2Full : State := { full with en := true, seq := .poll, rpc := .p2, rb := some 0x15, ph := some 0 }

/-- Run mode, `P2` with room. -/
def atP2 : State := { v3 with en := true, seq := .poll, rpc := .p2, rb := some 0x19, ph := some 5 }

/-- Run mode, `P3`. -/
def atP3 : State := { atP2 with rpc := .p3, pt := some 7 }

/-- Run mode, `P4`. -/
def atP4 : State := { atP3 with rpc := .p4, slot := [(0, 0x16), (1, 0x17), (2, 0x18), (3, 0x19)] }

theorem witness_ProducerMicroSteps :
    run.en = true ∧ ({ run with rpc := .p1 } : State).rpc = .p1 ∧
    (atP2Full.en = true ∧ atP2Full.rpc = .p2 ∧ atP2Full.ph = some 0 ∧ atP2Full.rb = some 0x15 ∧
      cursorDist atP2Full.cfg.cap atP2Full.tail 0 = atP2Full.cfg.cap) ∧
    (atP2.en = true ∧ atP2.rpc = .p2 ∧ atP2.ph = some 5 ∧ cursorDist atP2.cfg.cap atP2.tail 5 ≠ atP2.cfg.cap) ∧
    (atP3.en = true ∧ atP3.rpc = .p3 ∧ atP3.pt = some 7 ∧ atP3.rb = some 0x19) ∧
    (atP4.en = true ∧ atP4.rpc = .p4 ∧ atP4.pt = some 7 ∧ atP4.rb = some 0x19) := by decide

/-- Run mode, `C3` of a `try_recv`. -/
def atC3 : State := { v3 with en := true, seq := .poll, cpc := .c3, ct := some 7, ch := some 5 }

/-- Run mode, `C4`, the chunk one byte short of full. -/
def atC4 : State := { atC3 with cpc := .c4, cb := some 0x17, chunk := [1, 2, 3] }

theorem witness_ConsumerMicroSteps :
    (run.en = true ∧ run.seq = .poll ∧ run.rpc = .rIdle ∧ run.cpc = .c1) ∧
    (let s : State := { run with cpc := .c2, ct := some 0 }
     s.en = true ∧ s.seq = .poll ∧ s.rpc = .rIdle ∧ s.cpc = .c2 ∧ s.ct = some s.head ∧ s.chunk = []) ∧
    (let s : State := { run with cpc := .c2, ct := some 0, chunk := [1] }
     s.en = true ∧ s.seq = .poll ∧ s.rpc = .rIdle ∧ s.cpc = .c2 ∧ s.ct = some s.head ∧ s.chunk ≠ []) ∧
    (let s : State := { atC3 with cpc := .c2 }
     s.en = true ∧ s.seq = .poll ∧ s.rpc = .rIdle ∧ s.cpc = .c2 ∧ s.ct = some 7 ∧ s.head ≠ 7) ∧
    (atC3.en = true ∧ atC3.seq = .poll ∧ atC3.rpc = .rIdle ∧ atC3.cpc = .c3 ∧ atC3.ch = some 5 ∧
      atC3.slot.read (5 % atC3.cfg.cap) = some 0x17) ∧
    (atC4.en = true ∧ atC4.seq = .poll ∧ atC4.rpc = .rIdle ∧ atC4.cpc = .c4 ∧ atC4.ch = some 5 ∧ atC4.cb = some 0x17 ∧
      atC4.chunk.length + 1 = atC4.cfg.chunkMax) ∧
    (let s : State := { atC4 with chunk := [] }
     s.en = true ∧ s.seq = .poll ∧ s.rpc = .rIdle ∧ s.cpc = .c4 ∧ s.ch = some 5 ∧ s.cb = some 0x17 ∧
      s.chunk.length + 1 ≠ s.cfg.chunkMax) := by decide

/-- Run mode with two bytes waiting: the interrupt is pending. -/
def pending : State := { run with rxAvail := [0x02, 0xDE] }

theorem witness_CaptureSteps :
    (pending.en = true ∧ pending.rpc = .rIdle ∧ pending.rxAvail ≠ []) ∧
    (let s : State := { pending with rpc := .rRead }
     s.en = true ∧ s.rpc = .rRead ∧ s.rxAvail = 0x02 :: [0xDE]) ∧
    (let s : State := { run with rpc := .rRead }
     s.en = true ∧ s.rpc = .rRead ∧ s.rxAvail = []) := by decide

theorem witness_HandlerEnteredExactlyWhenPending : pending.rpc = .rIdle ∧ pending.rxPending = true := by decide

theorem witness_FeedStep :
    (let s : State := { run with seq := .feed, chunk := [1] }
     s.en = true ∧ s.seq = .feed ∧ s.rpc = .rIdle ∧ s.flag ≠ .ready) ∧
    (let s : State := { ready with en := true, seq := .feed, chunk := [1] }
     s.en = true ∧ s.seq = .feed ∧ s.rpc = .rIdle ∧ s.chunk ≠ [] ∧ s.flag = .ready) := by decide

/-- Run mode at `CHECK` with a ready frame. -/
def atCheck : State := { ready with en := true, seq := .check }

theorem witness_CheckStep :
    (atCheck.en = true ∧ atCheck.seq = .check ∧ atCheck.rpc = .rIdle ∧ atCheck.cfg.flagOf atCheck.dec = .ready) ∧
    atCheck.cfg.flagOf (ready.dec ++ [[]]) = .finished ∧
    (let s : State := { atCheck with dec := [], resolving := true }
     s.cfg.flagOf s.dec = .collecting ∧ s.resolving = true) ∧
    (let s : State := { atCheck with dec := [] }
     s.cfg.flagOf s.dec = .collecting ∧ s.resolving = false) := by decide

theorem witness_FlushStep :
    let s : State := { atCheck with seq := .flush, resolving := true }
    s.en = true ∧ s.seq = .flush ∧ s.rpc = .rIdle := by decide

theorem witness_ConsumerGating :
    (atP3.cfg.preempt = .irqAtomic ∧ atP3.rpc ≠ .rIdle) ∧ bench.en = false ∧
    ({ run with seq := .sleep } : State).seq = .sleep ∧ run.seq ≠ .sleep := by decide

theorem witness_CallOutsideTheTableIsRefused : permits .irq .feed = false ∧ permits .task .trySend = false := by decide

theorem witness_AgentsKeepToTheirContext :
    (∃ t, stepRxc atP3 = .next t ∧ t ≠ atP3 ∧ atP3.rpc ≠ .rIdle) ∧ ∃ t, stepCons atCheck = .next t ∧ t ≠ atCheck :=
  ⟨⟨_, rfl, by decide, by decide⟩, ⟨_, rfl, by decide⟩⟩

theorem witness_SingleWriter :
    (∃ t, stepRxc atP3 = .next t) ∧ (∃ t, stepCons atC4 = .next t) ∧ (∃ t, takeTurn (.arrive 1) run = .next t) ∧
    (∃ t, takeTurn .wake { run with seq := .sleep } = .next t) := ⟨⟨_, rfl⟩, ⟨_, rfl⟩, ⟨_, rfl⟩, ⟨_, rfl⟩⟩

theorem witness_RunModeIsForGood :
    (∃ t, step { atCheck with turns := [.cons] } = .next t) ∧ atCheck.en = true ∧ atCheck.seq ≠ .idle :=
  ⟨⟨_, rfl⟩, by decide, by decide⟩

theorem witness_OnlyWakeEndsTheSleep :
    let s : State := { pending with seq := .sleep, turns := [.rxc] }
    s.en = true ∧ s.seq = .sleep ∧ (∃ t, step s = .next t) ∧ (nextTurn s).1 ≠ .wake :=
  ⟨rfl, rfl, ⟨_, rfl⟩, by decide⟩

theorem witness_DecoderChangesOnlyByFeed :
    ∃ t, step { run with seq := .feed, chunk := [1], turns := [.cons] } = .next t ∧ t.dec = [[1]] := ⟨_, rfl, rfl⟩

theorem witness_OutGrowsOnlyAtCheck :
    ∃ t, step { atCheck with turns := [.cons] } = .next t ∧ t.out = [[0xDE, 0xAD]] := ⟨_, rfl, rfl⟩

theorem inv_atP2Full : atP2Full.Inv where
  head_lt := by decide
  tail_lt := by decide
  occ_le := by decide
  slot_wf := by decide
  slot_within := by decide
  held_written := by decide
  latches_lt := by
    intro v hv
    have hv : v = 0 := by simpa [atP2Full, full, bench, State.resetWith] using hv
    subst hv
    decide
  producer := ⟨0x15, 0, rfl, rfl, by decide, by decide, fun _ => rfl⟩
  consumer := trivial
  cpc_home := by decide
  loop := ⟨by decide, rfl⟩
  bench_seq := by decide
  bench_rpc := by decide

theorem witness_ByteLostOnlyWhenFull :
    let s : State := { atP2Full with turns := [.rxc] }
    s.en = true ∧ (∃ t, step s = .next t ∧ t.trace = s.trace ++ [.drop 0x15]) ∧ atP2Full.Inv ∧
    s.cfg.preempt = .irqAtomic := ⟨rfl, ⟨_, rfl, rfl⟩, inv_atP2Full, rfl⟩

theorem inv_atP3 : atP3.Inv where
  head_lt := by decide
  tail_lt := by decide
  occ_le := by decide
  slot_wf := by decide
  slot_within := by decide
  held_written := by decide
  latches_lt := by
    intro v hv
    have hv : v = 5 ∨ v = 7 := by simpa [atP3, atP2, v3, bench, State.resetWith] using hv
    rcases hv with rfl | rfl <;> decide
  producer := ⟨0x19, 5, rfl, rfl, ⟨by decide, by decide, fun _ => rfl⟩, by decide, rfl⟩
  consumer := trivial
  cpc_home := by decide
  loop := ⟨by decide, rfl⟩
  bench_seq := by decide
  bench_rpc := by decide

theorem inv_atP4 : atP4.Inv where
  head_lt := by decide
  tail_lt := by decide
  occ_le := by decide
  slot_wf := by decide
  slot_within := by decide
  held_written := by decide
  latches_lt := by
    intro v hv
    have hv : v = 5 ∨ v = 7 := by simpa [atP4, atP3, atP2, v3, bench, State.resetWith] using hv
    rcases hv with rfl | rfl <;> decide
  producer := ⟨0x19, 5, rfl, rfl, ⟨by decide, by decide, fun _ => rfl⟩, by decide, rfl, by decide⟩
  consumer := trivial
  cpc_home := by decide
  loop := ⟨by decide, rfl⟩
  bench_seq := by decide
  bench_rpc := by decide

theorem inv_atC3 : atC3.Inv where
  head_lt := by decide
  tail_lt := by decide
  occ_le := by decide
  slot_wf := by decide
  slot_within := by decide
  held_written := by decide
  latches_lt := by
    intro v hv
    have hv : v = 7 ∨ v = 5 := by simpa [atC3, v3, bench, State.resetWith] using hv
    rcases hv with rfl | rfl <;> decide
  producer := trivial
  consumer := ⟨7, rfl, by decide, by decide, by decide, rfl⟩
  cpc_home := by decide
  loop := ⟨by decide, rfl⟩
  bench_seq := by decide
  bench_rpc := by decide

theorem inv_atC4 : atC4.Inv where
  head_lt := by decide
  tail_lt := by decide
  occ_le := by decide
  slot_wf := by decide
  slot_within := by decide
  held_written := by decide
  latches_lt := by
    intro v hv
    have hv : v = 7 ∨ v = 5 := by simpa [atC4, atC3, v3, bench, State.resetWith] using hv
    rcases hv with rfl | rfl <;> decide
  producer := trivial
  consumer := ⟨7, 0x17, rfl, by decide, by decide, by decide, rfl, rfl, by decide⟩
  cpc_home := by decide
  loop := ⟨by decide, rfl⟩
  bench_seq := by decide
  bench_rpc := by decide

theorem witness_SlotAccessesDoNotRace :
    (atC3.Inv ∧ atC3.consGate = true ∧ atC3.seq = .poll ∧ atC3.cpc = .c3) ∧ (atP3.Inv ∧ atP3.en = true ∧ atP3.rpc = .p3) ∧
    (atP4.Inv ∧ atP4.en = true ∧ atP4.rpc = .p4 ∧ atP4.rb = some 0x19) ∧
    (atC4.Inv ∧ atC4.consGate = true ∧ atC4.seq = .poll ∧ atC4.cpc = .c4 ∧ atC4.cb = some 0x17) :=
  ⟨⟨inv_atC3, by decide, by decide, by decide⟩, ⟨inv_atP3, by decide, by decide⟩,
   ⟨inv_atP4, by decide, by decide, by decide⟩, inv_atC4, by decide, by decide, by decide, by decide⟩

theorem witness_EmittedPayloadsStayBounded :
    (∀ p ∈ atCheck.out, p.length ≤ atCheck.cfg.cap) ∧ ∃ t, step { atCheck with turns := [.cons] } = .next t :=
  ⟨by decide, ⟨_, rfl⟩⟩

theorem witness_QuiescentStateOnlyWakes :
    let s : State := { run with seq := .sleep }
    s.en = true ∧ s.Quiescent := ⟨rfl, rfl, rfl, rfl, rfl, rfl, rfl⟩

/-- The clauses of ProducerMicroSteps and ConsumerMicroSteps for latches and slots that hold no value. -/
theorem witness_unwritten_latches :
    run.en = true ∧ run.ph = none ∧ run.pt = none ∧ ({ run with pt := some 0 } : State).rb = none ∧ run.seq = .poll ∧
    run.rpc = .rIdle ∧ run.ct = none ∧ run.ch = none ∧ run.cb = none ∧
    run.slot.read (0 % run.cfg.cap) = none := by decide

theorem launch_v3 : v3.Launch where
  fifo_inv := inv_v3.toFifoInv
  handler_idle := rfl
  seq_idle := ⟨rfl, rfl, rfl⟩
  chunk_empty := rfl
  not_resolving := rfl
  flag_not_ready := by decide

theorem witness_ResetMeetsTheInvariants :
    (1 ≤ 65535 ∧ 1 ≤ 1) ∧ bench.AtReset ∧ v3.Launch ∧ v3.LatchesInRange :=
  ⟨by decide, ⟨small 3, rfl⟩, launch_v3, inv_v3.latches_lt⟩

theorem witness_RunFromLaunchNeverStops :
    v3.Launch ∧ v3.LatchesInRange ∧ ∀ tn ∈ [Turn.arrive 1, .rxc, .cons, .wake, .issue [2]], ownTurn tn = true :=
  ⟨launch_v3, inv_v3.latches_lt, by decide⟩

theorem witness_ArrivalsInsideACommand :
    (∃ t, exec (.trySend 1) bench = .next t) ∧ Instr.trySend 1 ≠ .rxService ∧
    exec .tryRecv run = .refused .runMode ∧ exec .tryRecv { bench with tail := 1 } = .fault .slotUnwritten :=
  ⟨⟨_, rfl⟩, by decide, rfl, rfl⟩

/-! ### Runs under a constant schedule -/

/-- The state after a turn, where it answers one. -/
def nextOr (tn : Turn) (s : State) : State := (nextView (takeTurn tn s) id).getD s

/-- The states of a run that takes the same turn again and again. -/
def constRun (tn : Turn) (s : State) : Nat → State
  | 0 => s
  | n + 1 => nextOr tn (constRun tn s n)

theorem constRun_fixed {tn : Turn} {s : State} {k : Nat} (hk : nextOr tn (constRun tn s k) = constRun tn s k) (n : Nat) :
    constRun tn s (k + n) = constRun tn s k := by
  induction n with
  | zero => rfl
  | succ n ih => rw [← Nat.add_assoc, constRun, ih, hk]

/-- A run that is still at its `k`-th state and stops nowhere before. -/
theorem isRun_const {tn : Turn} {s : State} (k : Nat)
    (hn : ∀ n ∈ List.range (k + 1), (nextView (takeTurn tn (constRun tn s n)) id).isSome = true)
    (hk : nextOr tn (constRun tn s k) = constRun tn s k) : IsRun (fun _ => tn) (constRun tn s) := by
  have key : ∀ x, (nextView (takeTurn tn x) id).isSome = true → takeTurn tn x = .next (nextOr tn x) := by
    intro x hx
    unfold nextOr
    cases h : takeTurn tn x <;> simp_all [nextView]
  intro n
  apply key
  by_cases h : n ≤ k
  · exact hn n (List.mem_range.mpr (by omega))
  · obtain ⟨d, rfl⟩ := Nat.exists_eq_add_of_le (Nat.le_of_not_le h)
    rw [constRun_fixed hk]
    exact hn k (List.mem_range.mpr (by omega))

theorem witness_FairSchedulesMakeProgress_handler :
    let σ : Nat → Turn := fun _ => .rxc
    let ρ := constRun .rxc pending
    IsRun σ ρ ∧ (ρ 0).en = true ∧ FairRxc σ ρ ∧ FiniteArrivals σ ρ :=
  ⟨isRun_const 12 (by decide) (by decide), rfl,
   ⟨fun n _ => ⟨n, le_refl n, rfl⟩, fun n _ _ => ⟨n, le_refl n, rfl⟩⟩, fun _ _ => ⟨0, fun _ _ _ h => by cases h⟩⟩

theorem witness_FairSchedulesMakeProgress_consumer :
    let σ : Nat → Turn := fun _ => .cons
    let ρ := constRun .cons { run with seq := .feed, chunk := [1] }
    IsRun σ ρ ∧ FairCons σ ρ ∧ (∀ m, 0 ≤ m → (ρ m).consGate = true) ∧ (ρ 0).seq = .feed ∧ (ρ 1).seq = .check := by
  have hk : nextOr .cons (constRun .cons { run with seq := .feed, chunk := [1] } 4) =
      constRun .cons { run with seq := .feed, chunk := [1] } 4 := by decide
  refine ⟨isRun_const 4 (by decide) hk, fun n _ => ⟨n, le_refl n, rfl⟩, fun m _ => ?_, rfl, by decide⟩
  by_cases h : m < 4
  · revert m
    decide
  · obtain ⟨d, rfl⟩ := Nat.exists_eq_add_of_le (Nat.le_of_not_lt h)
    rw [constRun_fixed hk]
    decide

theorem witness_FairSchedulesMakeProgress_sleep :
    let σ : Nat → Turn := fun _ => .wake
    let ρ := constRun .wake { run with seq := .sleep }
    IsRun σ ρ ∧ FairWake σ ρ ∧ (ρ 0).seq = .sleep :=
  ⟨isRun_const 1 (by decide) (by decide), fun n _ => ⟨n, le_refl n, rfl⟩, rfl⟩

/-- V13, rule R173: two whole frames in one chunk, both shown and resolved, leave nothing pending. -/
theorem test_nothing_pending_after_two_frames : (refCodec 8).NothingPending 0 6 ⟨.finished, [], []⟩ :=
  ⟨[[0x01, 0xAA, 0xAB, 0x01, 0xBB, 0xBC], [], [], []], rfl, ⟨.inr ⟨rfl, by decide⟩, .inl rfl, .inl rfl, .inl rfl, trivial⟩,
    rfl, by decide, by decide⟩

/-- Conflict C10: a codec that shows the first of two equal frames twice and then `finished` has shown one frame. -/
theorem test_frame_shown_twice_is_one_frame :
    let c := scriptCodec 4 [(.ready, [1]), (.ready, [1]), (.finished, [])]
    c.framesShown c.init none [[1, 1], [], []] = [[1]] := by decide

theorem witness_StepKeepsInvariant : atC4.Inv ∧ ∃ t, stepCons atC4 = .next t := ⟨inv_atC4, ⟨_, rfl⟩⟩

theorem witness_NoReadBeforeWrite : atP3.Inv ∧ atC3.Inv ∧ v3.Inv := ⟨inv_atP3, inv_atC3, inv_v3⟩

theorem witness_FifoOrderKept : bench.Inv ∧ bench.FifoHistory ∧ ∃ t, step (bench.withFetchWord 16 0x4101) = .next t :=
  ⟨inv_bench, rfl, ⟨_, rfl⟩⟩

theorem inv_pending : pending.Inv where
  head_lt := by decide
  tail_lt := by decide
  occ_le := by decide
  slot_wf := by decide
  slot_within := by decide
  held_written := by decide
  latches_lt := by simp [State.LatchesInRange, pending, run, bench, State.resetWith]
  producer := trivial
  consumer := trivial
  cpc_home := by decide
  loop := ⟨by decide, rfl⟩
  bench_seq := by decide
  bench_rpc := by decide

theorem witness_ArrivalOrderKeptThroughTheBlock :
    let s : State := { pending with trace := [.arrive 0x02, .arrive 0xDE] }
    pending.Inv ∧ s.en = true ∧ s.CaptureHistory ∧ s.FeedHistory ∧ ∃ t, stepRxc s = .next t :=
  ⟨inv_pending, rfl, rfl, rfl, ⟨_, rfl⟩⟩

theorem witness_RunModeNeverRefuses :
    let s : State := { pending with turns := [.rxc] }
    pending.Inv ∧ s.en = true ∧ pending.FlagGuard ∧ ownTurn (nextTurn s).1 = true :=
  ⟨inv_pending, rfl, fun _ => by decide, rfl⟩

theorem witness_HandlerRunIsBounded : pending.Inv ∧ pending.rxPending = true := ⟨inv_pending, by decide⟩

/-- A script that is finished after one empty feed from its one ready state. -/
def shortScript : Params := { small 3 with codec := .script [(.ready, [1]), (.finished, [])] }

/-- The codec of `shortScript`. -/
def shortCodec : Codec := scriptCodec 4 [(.ready, [1]), (.finished, [])]

theorem shortCodec_after (h : List (List Byte)) : shortCodec.after h = h.length := by
  induction h using List.reverseRecOn with
  | nil => rfl
  | append_singleton l a ih =>
    unfold Codec.after at ih ⊢
    rw [List.foldl_append, ih]
    simp [shortCodec, scriptCodec]

theorem shortCodec_reachesFinished : shortCodec.ReachesFinished := by
  intro h hf
  rw [shortCodec_after] at hf
  refine ⟨1, le_refl 1, ?_, fun j h1 h2 => absurd h1 (by omega)⟩
  rw [shortCodec_after, List.length_append, List.length_replicate]
  match h.length, hf with
  | 0, hf => cases hf
  | 1, _ => rfl
  | 2, hf => cases hf
  | n + 3, hf => cases hf

theorem witness_ResolveLoopEnds :
    let s : State := { State.resetWith shortScript with en := true, seq := .check, dec := [[1]] }
    s.consGate = true ∧ s.seq = .check ∧ s.flag = .ready ∧ s.cfg.codecOf.ReachesFinished :=
  ⟨by decide, rfl, by decide, shortCodec_reachesFinished⟩

theorem witness_RefCodecMeetsTheContract : 6 + 2 ≤ 8 ∧ 6 ≤ 255 := by decide

end Sys2Proof.Tests
end

section
/-! Proofs for 00_scope.md: the slots a `TRY_SEND` writes, the dispatch of a step, and what reset and launch meet. -/

namespace Sys2Proof.Machine

/-! ### The slots after a `try_send` (rules R123, R125) -/

theorem fullBy_eq_true_iff (s : State) (ph : Nat) :
    s.fullBy ph = true ↔ cursorDist s.cfg.cap s.tail ph = s.cfg.cap := decide_eq_true_iff

theorem fullBy_eq_false_iff (s : State) (ph : Nat) :
    s.fullBy ph = false ↔ cursorDist s.cfg.cap s.tail ph ≠ s.cfg.cap := decide_eq_false_iff_not

theorem trySendNow_slot_of_full {s : State} (b : Byte) (h : s.fullBy s.head = true) :
    (trySendNow b s).1.slot = s.slot := by
  simp [trySendNow_full b h]

theorem trySendNow_slot_of_room {s : State} (b : Byte) (h : s.fullBy s.head = false) :
    (trySendNow b s).1.slot = s.slot.write (slotIndex s.cfg.cap s.tail) b := by
  simp [trySendNow_room b h]

/-- A `TRY_SEND` that answers a next state ran in bench mode, and that state is `try_send`'s with the response appended. -/
theorem exec_trySend_next {b : Byte} {s t : State} (h : exec (.trySend b) s = .next t) :
    s.en = false ∧ t = (trySendNow b s).1.respond (respBool (trySendNow b s).2) := by
  obtain ⟨hen, ht⟩ := benchOnly_next (show execTrySend b s = .next t from h)
  cases ht
  exact ⟨hen, rfl⟩

theorem exec_trySend_slot {b : Byte} {s t : State} (h : exec (.trySend b) s = .next t) :
    t.slot = (trySendNow b s).1.slot := by
  obtain ⟨-, rfl⟩ := exec_trySend_next h
  rfl

/-- Settles O23: with room the slots are written at `TAIL mod C` alone, when full they are the same memory. -/
theorem trySendStoresToOneSlot : Obligations.TrySendStoresToOneSlot := by
  intro b s t h
  have hslot := exec_trySend_slot h
  refine ⟨fun hroom => ?_, fun hfull i => ?_⟩
  · rw [trySendNow_slot_of_room b ((fullBy_eq_false_iff s s.head).mpr hroom)] at hslot
    rw [hslot]
    exact ⟨Memory.read_write_same .., fun i hi => Memory.read_write_other _ b hi⟩
  · rw [hslot, trySendNow_slot_of_full b ((fullBy_eq_true_iff s s.head).mpr hfull)]

/-! ### The dispatch of a step (rules R11, R38) -/

theorem nextTurn_of_turns_cons {s : State} {tn : Turn} {ts : List Turn} (h : s.turns = tn :: ts) :
    nextTurn s = (tn, { s with turns := ts }) := by
  simp [nextTurn, h]

theorem nextTurn_of_turns_nil {s : State} (h : s.turns = []) :
    nextTurn s = (Config.freeTurn s.tick, { s with tick := s.tick + 1 }) := by
  simp [nextTurn, h]

/-- With a turn on the schedule, the step is that turn on the state without it. -/
theorem step_of_turns_cons {s : State} {tn : Turn} {ts : List Turn} (h : s.turns = tn :: ts) :
    step s = takeTurn tn { s with turns := ts } := by
  rw [step, nextTurn_of_turns_cons h]

theorem step_of_turns_nil {s : State} (h : s.turns = []) :
    step s = takeTurn (Config.freeTurn s.tick) { s with tick := s.tick + 1 } := by
  rw [step, nextTurn_of_turns_nil h]

/-- With no command on the port, `HOST`'s turn is idle (log 6). -/
theorem takeCommand_of_port_nil {run : Instr → State → Result} {s : State} (h : s.port = []) :
    takeCommand run s = .next s := by
  simp [takeCommand, fetch, h, decode]

/-- Settles O8: each clause is `step_of_turns_cons` at one turn, the last one `step_of_turns_nil`. -/
theorem stepTakesTheNextTurn : Obligations.StepTakesTheNextTurn := by
  intro s ts
  refine ⟨step_of_turns_cons, step_of_turns_cons, step_of_turns_cons, fun _ => step_of_turns_cons,
    fun _ => step_of_turns_cons, fun _ _ _ => step_of_turns_cons, fun h hport => ?host, fun gaps h hport => ?during,
    step_of_turns_nil⟩
  case host => exact (step_of_turns_cons h).trans (takeCommand_of_port_nil hport)
  case during => exact (step_of_turns_cons h).trans (takeCommand_of_port_nil hport)

/-! ### The parameters (rule R5) -/

/-- Every pair of sizes in 1..65535 is some parameters'. -/
theorem exists_params_cap_chunkMax {n m : Nat} (hn : 1 ≤ n) (hn' : n ≤ 65535) (hm : 1 ≤ m) (hm' : m ≤ 65535) :
    ∃ p : Params, p.cap = n ∧ p.chunkMax = m := by
  refine ⟨⟨⟨n - 1, by omega⟩, ⟨m - 1, by omega⟩, .irqAtomic, .external, 0⟩, ?_, ?_⟩
  · exact Nat.sub_add_cancel hn
  · exact Nat.sub_add_cancel hm

/-! ### Reset meets the launch premises (rules R36, R252) -/

/-- KC1 of whichever codec the parameters select (rule R161): nothing fed shows `collecting`. -/
theorem flagOf_nil (p : Params) : p.flagOf [] = .collecting := by
  unfold Params.flagOf Params.codecOf
  cases p.codec with
  | external => rfl
  | reference => rfl
  | script rows => rfl

@[simp] theorem resetWith_flag (p : Params) : (State.resetWith p).flag = .collecting := flagOf_nil p

@[simp] theorem resetWith_occ (p : Params) : (State.resetWith p).occ = 0 := by
  have hpos : 0 < 2 * p.cap := by simp
  exact (cursorDist_eq_zero hpos hpos).mpr rfl

theorem resetWith_fifoInv (p : Params) : (State.resetWith p).FifoInv where
  head_lt := by simp [State.resetWith]
  tail_lt := by simp [State.resetWith]
  occ_le := by simp
  slot_wf := reset_slot_wf p
  slot_within := rfl
  held_written := by simp

theorem resetWith_launch (p : Params) : (State.resetWith p).Launch where
  fifo_inv := resetWith_fifoInv p
  handler_idle := rfl
  seq_idle := ⟨rfl, rfl, rfl⟩
  chunk_empty := rfl
  not_resolving := rfl
  flag_not_ready := by simp

theorem resetWith_latchesInRange (p : Params) : (State.resetWith p).LatchesInRange := by
  simp [State.LatchesInRange, State.resetWith]

/-! ### Launch meets the invariant and the flag premise (rules R203, R252) -/

/-- At launch both agents are home, so their latches owe nothing and the loop has staged nothing. -/
theorem State.Launch.inv {s : State} (h : s.Launch) (hlatch : s.LatchesInRange) : s.Inv := by
  obtain ⟨hseq, hcpc, hen⟩ := h.seq_idle
  exact
    { h.fifo_inv with
      latches_lt := hlatch
      producer := by simp [State.ProducerOk, h.handler_idle]
      consumer := by simp [State.ConsumerOk, hcpc]
      cpc_home := fun _ => hcpc
      loop := by simp [State.LoopOk, hseq, h.chunk_empty, h.not_resolving]
      bench_seq := by simp [hen, hseq]
      bench_rpc := fun _ => h.handler_idle }

theorem State.Launch.flagGuard {s : State} (h : s.Launch) : s.FlagGuard := fun _ => h.flag_not_ready

/-! ### The history laws at reset (rules R72, R133): nothing has happened and nothing is held -/

theorem resetWith_fifoHistory (p : Params) : (State.resetWith p).FifoHistory := by
  have hheld : (State.resetWith p).held = [] := List.eq_nil_of_length_eq_zero (by simp)
  rw [State.FifoHistory, hheld]
  rfl

theorem resetWith_captureHistory (p : Params) : (State.resetWith p).CaptureHistory := rfl

theorem resetWith_feedHistory (p : Params) : (State.resetWith p).FeedHistory := rfl

/-- Settles O11: the parameters by their types, reset as a launch state, and the invariant from the launch premises. -/
theorem resetMeetsTheInvariants : Obligations.ResetMeetsTheInvariants := by
  refine ⟨⟨rfl, rfl, rfl, rfl⟩, fun p => ?ranges, fun _ _ => exists_params_cap_chunkMax, ?atReset,
    fun s hl hlatch => ⟨hl.inv hlatch, hl.flagGuard⟩, fun p => ?reset⟩
  case ranges => exact ⟨cap_pos p, Nat.le_of_lt_succ (cap_lt p), chunkMax_pos p, Nat.le_of_lt_succ (chunkMax_lt p)⟩
  case atReset =>
    rintro s ⟨p, rfl⟩
    exact ⟨resetWith_launch p, resetWith_latchesInRange p⟩
  case reset =>
    have hl := resetWith_launch p
    exact ⟨hl, hl.inv (resetWith_latchesInRange p), hl.flagGuard, resetWith_fifoHistory p, resetWith_captureHistory p,
      resetWith_feedHistory p⟩

end Sys2Proof.Machine
end

section
/-! Proofs for 10_state.md: the codes and reset values, what each step leaves unchanged, the invariant of the block, and the
FIFO's history. -/

namespace Sys2Proof.Machine

/-! ### The codes of state values (rule R37) -/

/-- `cursorWidth C` is the least width whose codes reach `2C - 1`: it lies below every width that does, and no other. -/
theorem two_mul_le_two_pow_iff {cap : Nat} (h : 1 ≤ cap) (w : Nat) : 2 * cap ≤ 2 ^ w ↔ cursorWidth cap ≤ w := by
  rw [cursorWidth, Nat.succ_le_iff, Nat.log2_lt (by omega)]
  omega

/-- Settles O6: the codes by their tables, the width by `two_mul_le_two_pow_iff`. -/
theorem stateCodes : Obligations.StateCodes := by
  have hwidth : ∀ cap, 1 ≤ cap → 2 * cap ≤ 2 ^ cursorWidth cap ∧ ∀ w, 2 * cap ≤ 2 ^ w → cursorWidth cap ≤ w :=
    fun cap h => ⟨(two_mul_le_two_pow_iff h _).mpr le_rfl, fun w => (two_mul_le_two_pow_iff h w).mp⟩
  have hflag : ∀ f, flagCode f ≤ 2 := by rintro (_ | _ | _) <;> decide
  have hseq : ∀ q, seqCode q ≤ 5 := by rintro (_ | _ | _ | _ | _ | _) <;> decide
  have hrpc : ∀ r, rpcCode r ≤ 5 := by rintro (_ | _ | _ | _ | _ | _) <;> decide
  exact ⟨rfl, rfl, rfl, rfl, rfl, rfl, rfl, rfl, rfl, rfl, rfl, rfl, rfl, rfl, rfl, rfl, rfl, rfl, rfl, rfl, rfl,
    hflag, hseq, hrpc, rfl, rfl, rfl, fun _ => rfl, hwidth⟩

/-! ### Reset (rule R36) -/

/-- Settles O10: the values are `State.resetWith`'s own, the flag that of a decoder fed nothing. -/
theorem resetValues : Obligations.ResetValues := by
  refine ⟨⟨_, rfl⟩, fun p => ?_⟩
  have hflag := resetWith_flag p
  exact ⟨rfl, rfl, fun _ => rfl, rfl, rfl, rfl, rfl, rfl, rfl, rfl, hflag, rfl, rfl, rfl, rfl, rfl, rfl, rfl, rfl, rfl⟩

/-! ### When the agents have an enabled step (rules R25, R33, R66, R202) -/

theorem rxPending_iff (s : State) : s.rxPending = true ↔ s.en = true ∧ s.rxAvail ≠ [] ∧ s.rpc = .rIdle := by
  simp [State.rxPending, and_assoc]

theorem consGate_en {s : State} (h : s.consGate = true) : s.en = true := by
  simp only [State.consGate, Bool.and_eq_true] at h
  exact h.1

/-- Under `irq_atomic` the gate is open only over an idle handler. -/
theorem consGate_rpc {s : State} (h : s.consGate = true) (hp : s.cfg.preempt = .irqAtomic) : s.rpc = .rIdle := by
  simp only [State.consGate, hp, Bool.and_eq_true] at h
  simpa using h.2

theorem consGate_of_bench {s : State} (h : s.en = false) : s.consGate = false := by simp [State.consGate, h]

theorem stepRxc_of_bench {s : State} (h : s.en = false) : stepRxc s = .next s := by simp [stepRxc, h]

theorem stepCons_of_gate_closed {s : State} (h : s.consGate = false) : stepCons s = .next s := by simp [stepCons, h]

theorem stepCons_of_sleep {s : State} (h : s.seq = .sleep) : stepCons s = .next s := by simp [stepCons, h]

theorem stepRxc_of_pending {s : State} (h : s.rxPending = true) : stepRxc s = .next s.enterHandler := by
  obtain ⟨hen, hav, hrpc⟩ := (rxPending_iff s).mp h
  simp [stepRxc, stepREnter, hen, hav, hrpc]

/-- Settles O34: an idle handler's only step that moves `RPC` is `R-ENTER`, taken exactly when the interrupt is pending. -/
theorem handlerEnteredExactlyWhenPending : Obligations.HandlerEnteredExactlyWhenPending := by
  intro s
  refine ⟨rxPending_iff s, fun hidle => ⟨?entered, fun hp => ?enters⟩, stepRxc_of_pending⟩
  case entered =>
    rintro ⟨t, hstep, hrun⟩
    obtain rfl | ⟨hen, ⟨-, hav, -⟩ | h⟩ := stepRxc_next hstep
    · exact absurd hidle hrun
    · exact (rxPending_iff s).mpr ⟨hen, hav, hidle⟩
    · simp [hidle] at h
  case enters => exact ⟨_, stepRxc_of_pending hp, by simp⟩

/-- Settles O38: each idle turn is the gate, bench mode or `SLEEP`, and `WAKE` is its one test of `SEQ`. -/
theorem consumerGating : Obligations.ConsumerGating := by
  intro s
  refine ⟨fun hp hrpc => ?gated, fun hen => ?bench, stepCons_of_sleep, fun hseq => ?wakes, fun hseq => ?awake⟩
  case gated => exact stepCons_of_gate_closed (Bool.eq_false_iff.mpr fun hg => hrpc (consGate_rpc hg hp))
  case bench => exact ⟨stepCons_of_gate_closed (consGate_of_bench hen), stepRxc_of_bench hen⟩
  case wakes => simp [takeTurn, stepWake, hseq, State.goSeq]
  case awake => simp [takeTurn, stepWake, hseq]

/-! ### What `try_send` leaves unchanged (rule R125) -/

/-- `try_send` by its two outcomes: on a full FIFO it drops its byte, with room it stores and publishes it. -/
theorem trySendNow_cases (b : Byte) (s : State) :
    (s.fullBy s.head = true ∧ (trySendNow b s).1 = (s.latchRb b).latchPh.latchPt.record (.drop b)) ∨
    (s.fullBy s.head = false ∧
      (trySendNow b s).1 = ((((s.latchRb b).latchPh.latchPt).storeSlot s.tail b).publish s.tail).record (.enq b)) := by
  cases hf : s.fullBy s.head with
  | true => exact .inl ⟨rfl, by rw [trySendNow_full b hf]⟩
  | false => exact .inr ⟨rfl, by rw [trySendNow_room b hf]⟩

theorem trySendNow_frame (b : Byte) (s : State) :
    let t := (trySendNow b s).1
    t.cfg = s.cfg ∧ t.en = s.en ∧ t.dec = s.dec ∧ t.out = s.out ∧ t.rxAvail = s.rxAvail := by
  obtain ⟨-, h⟩ | ⟨-, h⟩ := trySendNow_cases b s <;> simp [h]

/-! ### Arrivals inside a command (rules R99, R146; log 9) -/

/-- Arrivals inside a `try_send` might as well come before it: its micro-steps read neither `RXAVAIL` nor the ghost. -/
theorem trySendDuring_eq (b : Byte) (gaps : List (List Byte)) (s : State) :
    ∃ inside, (trySendDuring b gaps s).1 = (trySendNow b (lineArrives inside s)).1 ∧
      (trySendDuring b gaps s).2.1 = (trySendNow b (lineArrives inside s)).2 := by
  cases hf : s.fullBy s.head with
  | true =>
    refine ⟨gaps.headD [], ?_⟩
    rw [trySendDuring_full b gaps hf, trySendNow_full b (s := lineArrives _ s) hf]
    exact ⟨rfl, rfl⟩
  | false =>
    refine ⟨gaps.headD [] ++ gaps.tail.headD [] ++ (gaps.drop 2).headD [], ?_⟩
    rw [trySendDuring_room b gaps hf, trySendNow_room b (s := lineArrives _ s) hf]
    simp [arriveNext, lineArrives, State.latchRb, State.latchPh, State.latchPt, State.storeSlot, State.publish,
      State.record]

@[simp] theorem trySendDuring_nil (b : Byte) (s : State) :
    trySendDuring b [] s = ((trySendNow b s).1, (trySendNow b s).2, []) := by
  cases hf : s.fullBy s.head with
  | true => simp [trySendDuring_full b [] hf, trySendNow_full b hf]
  | false => simp [trySendDuring_room b [] hf, trySendNow_room b hf]

theorem serviceDuring_nil (n : Nat) (s : State) (h : s.rxAvail.length = n) :
    serviceDuring n [] s = serviceLoop s.rxAvail s := by
  induction n generalizing s with
  | zero => simp [serviceDuring, serviceLoop, List.eq_nil_of_length_eq_zero h]
  | succ n ih =>
    obtain ⟨b, r, hav⟩ := List.exists_cons_of_length_eq_add_one h
    obtain ⟨-, -, -, -, hsent⟩ := trySendNow_frame b (s.setRx r)
    have hlen : (trySendNow b (s.setRx r)).1.rxAvail.length = n := by
      rw [hsent]
      simpa [hav] using h
    simp [serviceDuring, hav, serviceLoop, ih _ hlen, hsent]

/-- `TRY_RECV` inside which nothing arrives, outcome by outcome: empty, the read of rule R35, a byte. -/
theorem execTryRecvDuring_nil (s : State) : execTryRecvDuring [] s = execTryRecv s := by
  by_cases he : s.head = s.tail
  · simp [execTryRecvDuring, execTryRecv, he]
  · cases hr : s.slot.read (slotIndex s.cfg.cap s.head) with
    | none => simp [execTryRecvDuring, execTryRecv, he, hr]
    | some v => simp [execTryRecvDuring, execTryRecv, he, hr]

/-- A command inside which nothing arrives is the command. -/
theorem execDuring_nil (i : Instr) (s : State) : execDuring i [] s = exec i s := by
  cases i with
  | trySend b => simp [execDuring, exec, execTrySendDuring, execTrySend]
  | tryRecv => exact execTryRecvDuring_nil s
  | rxService => simp [execDuring, exec, execRxServiceDuring, execRxService, serviceDuring_nil]
  | feed | isReady | isFinish | getPayload | rxregRead | start => rfl

theorem benchOnly_lineArrives (bs : List Byte) (s : State) (r : Result) :
    benchOnly (lineArrives bs s) r = benchOnly s r := rfl

/-- Arrivals inside a command other than `RX_SERVICE` might as well come before it. -/
theorem execDuring_eq_exec {i : Instr} (hi : i ≠ .rxService) (gaps : List (List Byte)) (s : State) :
    ∃ inside, execDuring i gaps s = exec i (lineArrives inside s) := by
  cases i with
  | rxService => exact absurd rfl hi
  | trySend b =>
    obtain ⟨inside, hstate, hanswer⟩ := trySendDuring_eq b gaps s
    refine ⟨inside, ?_⟩
    simp only [execDuring, exec, execTrySendDuring, execTrySend, benchOnly_lineArrives, hstate, hanswer]
  | tryRecv =>
    simp only [execDuring, exec, execTryRecvDuring, execTryRecv, benchOnly_lineArrives]
    by_cases he : s.head = s.tail
    · exact ⟨gaps.headD [], congrArg (benchOnly s) ((if_pos he).trans (if_pos he).symm)⟩
    · refine ⟨gaps.headD [] ++ gaps.tail.headD [] ++ (gaps.drop 2).headD [], ?_⟩
      cases hr : s.slot.read (slotIndex s.cfg.cap s.head) with
      | none => simp [he, hr]
      | some v =>
        simp [he, hr, arriveNext, lineArrives, State.latchCt, State.latchCh, State.latchCb, State.release, State.record,
          State.respond]
  | feed | isReady | isFinish | getPayload | rxregRead | start => exact ⟨[], by simp [execDuring]⟩

/-! ### What a command can do (rules R125, R131, R142, R146, R163 to R168, R191) -/

/-- A property that every piece of a command other than `FEED` and `START` keeps: an arrival inside it, the reads of the
receive register, the responses, `try_send`, `try_recv` by both outcomes, and the handler's return. -/
structure KeptByCommandPieces (P : State → Prop) : Prop where
  arrives : ∀ bs s, P s → P (lineArrives bs s)
  setRx : ∀ bs s, P s → P (s.setRx bs)
  respond : ∀ bs s, P s → P (s.respond bs)
  trySend : ∀ b s, P s → P (trySendNow b s).1
  recvNone : ∀ s, P s → P s.latchCt.latchCh
  recvSome : ∀ v s, P s → s.head ≠ s.tail → s.slot.read (slotIndex s.cfg.cap s.head) = some v →
    P (((s.latchCt.latchCh.latchCb v).release s.head).record (.deq v))
  leave : ∀ s, P s → P s.leaveHandler

/-- The handler's loop of `RX_SERVICE` is made of those pieces. -/
theorem KeptByCommandPieces.of_serviceDuring {P : State → Prop} (hP : KeptByCommandPieces P) (n : Nat)
    (gaps : List (List Byte)) (s : State) (hs : P s) : P (serviceDuring n gaps s) := by
  induction n generalizing gaps s with
  | zero => exact hs
  | succ n ih =>
    unfold serviceDuring
    split
    · exact hs
    · next b r hav =>
      obtain ⟨inside, hsent, -⟩ := trySendDuring_eq b gaps.tail (arriveNext gaps (s.setRx r))
      apply ih
      rw [hsent]
      exact hP.arrives _ _ (hP.trySend _ _ (hP.arrives _ _ (hP.arrives _ _ (hP.setRx _ _ hs))))

/-- The handler's loop with no arrival inside is made of them too. -/
theorem KeptByCommandPieces.of_serviceLoop {P : State → Prop} (hP : KeptByCommandPieces P) (bs : List Byte) (s : State)
    (hs : P s) : P (serviceLoop bs s) := by
  induction bs generalizing s with
  | nil => exact hs
  | cons b r ih => exact ih _ (hP.trySend _ _ (hP.setRx _ _ hs))

theorem KeptByCommandPieces.of_exec {P : State → Prop} (hP : KeptByCommandPieces P) {i : Instr} {s t : State}
    (hfeed : ∀ bs, i ≠ .feed bs) (hstart : i ≠ .start) (h : exec i s = .next t) (hs : P s) : P t := by
  cases i with
  | feed bs => exact absurd rfl (hfeed bs)
  | start => exact absurd rfl hstart
  | trySend b =>
    obtain ⟨-, rfl⟩ := exec_trySend_next h
    exact hP.respond _ _ (hP.trySend _ _ hs)
  | tryRecv =>
    obtain ⟨-, h⟩ := benchOnly_next h
    split at h
    · cases h
      exact hP.respond _ _ (hP.recvNone _ hs)
    · next hne =>
      split at h
      · cases h
      · next v hv =>
        cases h
        exact hP.respond _ _ (hP.recvSome _ _ hs hne hv)
  | isReady | isFinish =>
    obtain ⟨-, h⟩ := benchOnly_next h
    cases h
    exact hP.respond _ _ hs
  | getPayload =>
    obtain ⟨-, h⟩ := benchOnly_next h
    split at h
    · cases h
      exact hP.respond _ _ hs
    · cases h
  | rxService =>
    obtain ⟨-, h⟩ := benchOnly_next h
    cases h
    exact hP.leave _ (hP.of_serviceLoop _ _ hs)
  | rxregRead =>
    obtain ⟨-, h⟩ := benchOnly_next h
    split at h
    · cases h
      exact hP.respond _ _ (hP.setRx _ _ hs)
    · cases h
      exact hP.respond _ _ hs

theorem KeptByCommandPieces.of_execDuring {P : State → Prop} (hP : KeptByCommandPieces P) {i : Instr}
    {gaps : List (List Byte)} {s t : State} (hfeed : ∀ bs, i ≠ .feed bs) (hstart : i ≠ .start)
    (h : execDuring i gaps s = .next t) (hs : P s) : P t := by
  by_cases hi : i = .rxService
  · subst hi
    obtain ⟨-, h⟩ := benchOnly_next h
    cases h
    exact hP.leave _ (hP.of_serviceDuring _ _ _ (hP.arrives _ _ hs))
  · obtain ⟨inside, hexec⟩ := execDuring_eq_exec hi gaps s
    exact hP.of_exec hfeed hstart (hexec ▸ h) (hP.arrives _ _ hs)

/-- A command that answers a next state ran in bench mode (rule R99). -/
theorem execDuring_bench {i : Instr} {gaps : List (List Byte)} {s t : State} (h : execDuring i gaps s = .next t) :
    s.en = false := by
  obtain ⟨r, hr⟩ : ∃ r, execDuring i gaps s = benchOnly s r := by cases i <;> exact ⟨_, rfl⟩
  exact (benchOnly_next (hr ▸ h)).1

/-- Everything a command can do when it answers a next state: it feeds the decoder, or it starts the block, or it keeps
whatever the pieces of commands keep. -/
theorem KeptByCommandPieces.command_next {P : State → Prop} (hP : KeptByCommandPieces P) {i : Instr}
    {gaps : List (List Byte)} {s t : State} (h : execDuring i gaps s = .next t) (hs : P s) :
    (∃ bs, t = s.feedDec bs) ∨ t = { s with en := true, seq := .poll } ∨ P t := by
  cases i with
  | feed bs =>
    obtain ⟨-, h⟩ := benchOnly_next h
    split at h
    · cases h
    · cases h
      exact .inl ⟨bs, rfl⟩
  | start =>
    obtain ⟨-, h⟩ := benchOnly_next h
    cases h
    exact .inr (.inl rfl)
  | trySend | tryRecv | isReady | isFinish | getPayload | rxService | rxregRead =>
    exact .inr (.inr (hP.of_execDuring (by simp) (by simp) h hs))

/-! ### What a step can do -/

/-- The state with other inputs: the bytes on the port, the schedule, the counter of free turns (rule R38; logs 5 and 7). -/
def State.withInputs (s : State) (port : List Byte) (turns : List Turn) (tick : Nat) : State :=
  { s with port := port, turns := turns, tick := tick }

/-- Everything a step can do when it answers a next state, from the state with its turn accounted for. A call is a step of
its agent, and a command inside which nothing arrives is one inside which no list of bytes does. -/
inductive Move (s : State) : State → Prop
  | idle : Move s s
  | arrive (bs : List Byte) : Move s (lineArrives bs s)
  | wake : Move s (stepWake s)
  | rxc {t : State} (h : stepRxc s = .next t) : Move s t
  | cons {t : State} (h : stepCons s = .next t) : Move s t
  | command {t : State} (i : Instr) (gaps : List (List Byte)) (h : execDuring i gaps s = .next t) : Move s t

theorem takeTurn_move {tn : Turn} {s t : State} (h : takeTurn tn s = .next t) :
    ∃ port, Move (s.withInputs port s.turns s.tick) t := by
  obtain ⟨b, -, rfl⟩ | ⟨-, rfl⟩ | ⟨bs, -, rfl⟩ | h | h | ⟨-, rfl | ⟨i, rest, -, h⟩⟩ |
    ⟨gaps, -, rfl | ⟨i, rest, -, h⟩⟩ := takeTurn_next h
  · exact ⟨s.port, .arrive [b]⟩
  · exact ⟨s.port, .wake⟩
  · exact ⟨s.port ++ bs, .idle⟩
  · exact ⟨s.port, .rxc h⟩
  · exact ⟨s.port, .cons h⟩
  · exact ⟨t.port, .idle⟩
  · exact ⟨rest, .command i [] ((execDuring_nil i _).trans h)⟩
  · exact ⟨t.port, .idle⟩
  · exact ⟨rest, .command i gaps h⟩

theorem step_move {s t : State} (h : step s = .next t) :
    ∃ port turns tick, Move (s.withInputs port turns tick) t := by
  obtain ⟨turns, tick, hu⟩ := nextTurn_state s
  rw [step, hu] at h
  obtain ⟨port, hm⟩ := takeTurn_move h
  exact ⟨port, turns, tick, hm⟩

/-! ### What a step leaves unchanged (rules R25, R30, R31, R38) -/

/-- A step of `RXC` leaves the parameters, the control registers, the decoder and `OUT` alone. -/
theorem stepRxc_frame {s t : State} (h : stepRxc s = .next t) :
    t.cfg = s.cfg ∧ t.en = s.en ∧ t.seq = s.seq ∧ t.dec = s.dec ∧ t.out = s.out := by
  obtain rfl | ⟨-, ⟨-, -, rfl⟩ | ⟨-, -, rfl⟩ | ⟨-, b, r, -, rfl⟩ | ⟨-, rfl⟩ | ⟨-, ph, -, -, rfl⟩ | ⟨-, ph, -, -, rfl⟩ |
    ⟨-, pt, b, -, -, rfl⟩ | ⟨-, pt, -, rfl⟩⟩ := stepRxc_next h <;> simp

theorem stepPoll_frame {s t : State} (h : stepPoll s = .next t) :
    t.cfg = s.cfg ∧ t.en = s.en ∧ t.dec = s.dec ∧ t.out = s.out := by
  obtain ⟨-, rfl⟩ | ⟨-, -, rfl⟩ | ⟨-, ct, -, -, rfl⟩ | ⟨-, ch, b, -, -, rfl⟩ | ⟨-, ch, b, -, -, rfl⟩ := stepPoll_next h
    <;> simp

theorem stepPoll_seq_ne_idle {s t : State} (hs : s.seq ≠ .idle) (h : stepPoll s = .next t) : t.seq ≠ .idle := by
  obtain ⟨-, rfl⟩ | ⟨-, -, rfl⟩ | ⟨-, ct, -, -, rfl⟩ | ⟨-, ch, b, -, -, rfl⟩ | ⟨-, ch, b, -, -, rfl⟩ := stepPoll_next h
  · exact hs
  · rw [pollNone_seq]
    split <;> decide
  · exact hs
  · exact hs
  · rw [pollSome_seq]
    split <;> decide

theorem stepCheck_frame (s : State) :
    (stepCheck s).cfg = s.cfg ∧ (stepCheck s).en = s.en ∧ (stepCheck s).dec = s.dec ∧ (stepCheck s).seq ≠ .idle := by
  obtain ⟨-, h⟩ | ⟨-, h⟩ | ⟨-, h⟩ := stepCheck_eq s
  · simp [h]
  · simp [h]
  · rw [h]
    refine ⟨rfl, rfl, rfl, ?_⟩
    rw [State.goSeq_seq]
    split <;> decide

/-- A step of `CONS` changes no parameter, no mode, and does not bring `SEQ` back to `IDLE`. -/
theorem stepCons_frame {s t : State} (h : stepCons s = .next t) :
    t.cfg = s.cfg ∧ t.en = s.en ∧ (s.seq ≠ .idle → t.seq ≠ .idle) := by
  obtain rfl | ⟨-, ⟨-, h⟩ | ⟨-, -, rfl⟩ | ⟨-, rfl⟩ | ⟨-, rfl⟩⟩ := stepCons_next h
  · exact ⟨rfl, rfl, id⟩
  · obtain ⟨hcfg, hen, -, -⟩ := stepPoll_frame h
    exact ⟨hcfg, hen, fun hs => stepPoll_seq_ne_idle hs h⟩
  · simp
  · obtain ⟨hcfg, hen, -, hseq⟩ := stepCheck_frame s
    exact ⟨hcfg, hen, fun _ => hseq⟩
  · simp [stepFlush]

/-- A step of `CONS` leaves `DEC` alone or feeds it one list, on record (rules R163, R196, R198). -/
theorem stepCons_dec {s t : State} (h : stepCons s = .next t) :
    t.dec = s.dec ∨ ∃ bs, t.dec = s.dec ++ [bs] ∧ t.trace = s.trace ++ [Event.fed bs] := by
  obtain rfl | ⟨-, ⟨-, h⟩ | ⟨-, -, rfl⟩ | ⟨-, rfl⟩ | ⟨-, rfl⟩⟩ := stepCons_next h
  · exact .inl rfl
  · obtain ⟨-, -, hdec, -⟩ := stepPoll_frame h
    exact .inl hdec
  · exact .inr ⟨s.chunk, rfl, rfl⟩
  · obtain ⟨-, -, hdec, -⟩ := stepCheck_frame s
    exact .inl hdec
  · exact .inr ⟨[], rfl, rfl⟩

/-- A step of `CONS` leaves `OUT` alone or is a `CHECK` that sees `ready` (rule R197). -/
theorem stepCons_out {s t : State} (h : stepCons s = .next t) :
    t.out = s.out ∨ (s.en = true ∧ s.seq = .check ∧ s.flag = .ready ∧ t.out = s.out ++ [s.payload] ∧
      t.trace = s.trace ++ [Event.out s.payload]) := by
  obtain rfl | ⟨hg, ⟨-, h⟩ | ⟨-, -, rfl⟩ | ⟨hseq, rfl⟩ | ⟨-, rfl⟩⟩ := stepCons_next h
  · exact .inl rfl
  · obtain ⟨-, -, -, hout⟩ := stepPoll_frame h
    exact .inl hout
  · exact .inl rfl
  · obtain ⟨hflag, h⟩ | ⟨-, h⟩ | ⟨-, h⟩ := stepCheck_eq s
    · rw [h]
      exact .inr ⟨consGate_en hg, hseq, hflag, rfl, rfl⟩
    · rw [h]
      exact .inl rfl
    · rw [h]
      exact .inl rfl
  · exact .inl rfl

theorem stepWake_frame (s : State) :
    (stepWake s).cfg = s.cfg ∧ (stepWake s).en = s.en ∧ (s.seq ≠ .idle → (stepWake s).seq ≠ .idle) ∧
      (stepWake s).dec = s.dec ∧ (stepWake s).out = s.out := by
  unfold stepWake
  split
  · simp
  · exact ⟨rfl, rfl, id, rfl, rfl⟩

/-- No piece of a command changes a parameter, the decoder or `OUT`. -/
theorem commandPieces_keep_cfg_dec_out (s : State) :
    KeptByCommandPieces fun u => u.cfg = s.cfg ∧ u.dec = s.dec ∧ u.out = s.out where
  arrives _ _ h := h
  setRx _ _ h := h
  respond _ _ h := h
  trySend b u h := by
    obtain ⟨hcfg, -, hdec, hout, -⟩ := trySendNow_frame b u
    rwa [hcfg, hdec, hout]
  recvNone _ h := h
  recvSome _ _ h _ _ := h
  leave _ h := h

theorem command_frame {i : Instr} {gaps : List (List Byte)} {s t : State} (h : execDuring i gaps s = .next t) :
    t.cfg = s.cfg ∧ t.out = s.out ∧
      (t.dec = s.dec ∨ ∃ bs, t.dec = s.dec ++ [bs] ∧ t.trace = s.trace ++ [Event.fed bs]) := by
  obtain ⟨bs, rfl⟩ | rfl | ⟨hcfg, hdec, hout⟩ :=
    (commandPieces_keep_cfg_dec_out s).command_next h ⟨rfl, rfl, rfl⟩
  · exact ⟨rfl, rfl, .inr ⟨bs, rfl, rfl⟩⟩
  · exact ⟨rfl, rfl, .inl rfl⟩
  · exact ⟨hcfg, hout, .inl hdec⟩

/-- No move changes a parameter, leaves run mode, or brings a running consumer back to `IDLE`. -/
theorem Move.keeps_mode {s t : State} (h : Move s t) :
    t.cfg = s.cfg ∧ (s.en = true → t.en = true ∧ (s.seq ≠ .idle → t.seq ≠ .idle)) := by
  cases h with
  | idle => exact ⟨rfl, fun hen => ⟨hen, id⟩⟩
  | arrive bs => exact ⟨rfl, fun hen => ⟨hen, id⟩⟩
  | wake =>
    obtain ⟨hcfg, hen, hseq, -, -⟩ := stepWake_frame s
    exact ⟨hcfg, fun h => ⟨hen.trans h, hseq⟩⟩
  | rxc h =>
    obtain ⟨hcfg, hen, hseq, -, -⟩ := stepRxc_frame h
    exact ⟨hcfg, fun h => ⟨hen.trans h, fun hne => by rwa [hseq]⟩⟩
  | cons h =>
    obtain ⟨hcfg, hen, hseq⟩ := stepCons_frame h
    exact ⟨hcfg, fun h => ⟨hen.trans h, hseq⟩⟩
  | command i gaps h =>
    have hbench := execDuring_bench h
    exact ⟨(command_frame h).1, fun hen => by simp [hbench] at hen⟩

/-- Settles O42: agent by agent, and a command answers only in bench mode. -/
theorem runModeIsForGood : Obligations.RunModeIsForGood := by
  intro s t h
  obtain ⟨port, turns, tick, hm⟩ := step_move h
  exact hm.keeps_mode

/-- Settles O44: only `CONS` and the command `FEED` feed the decoder. -/
theorem decoderChangesOnlyByFeed : Obligations.DecoderChangesOnlyByFeed := by
  intro s t h
  obtain ⟨port, turns, tick, hm⟩ := step_move h
  cases hm with
  | idle => exact .inl rfl
  | arrive bs => exact .inl rfl
  | wake =>
    obtain ⟨-, -, -, hdec, -⟩ := stepWake_frame (s.withInputs port turns tick)
    exact .inl hdec
  | rxc h =>
    obtain ⟨-, -, -, hdec, -⟩ := stepRxc_frame h
    exact .inl hdec
  | cons h =>
    have hdec := stepCons_dec h
    exact hdec
  | command i gaps h =>
    obtain ⟨-, -, hdec⟩ := command_frame h
    exact hdec

/-- Settles O45: only `CONS` emits. -/
theorem outGrowsOnlyAtCheck : Obligations.OutGrowsOnlyAtCheck := by
  intro s t h
  obtain ⟨port, turns, tick, hm⟩ := step_move h
  cases hm with
  | idle => exact .inl rfl
  | arrive bs => exact .inl rfl
  | wake =>
    obtain ⟨-, -, -, -, hout⟩ := stepWake_frame (s.withInputs port turns tick)
    exact .inl hout
  | rxc h =>
    obtain ⟨-, -, -, -, hout⟩ := stepRxc_frame h
    exact .inl hout
  | cons h =>
    have hout := stepCons_out h
    exact hout
  | command i gaps h =>
    obtain ⟨-, hout, -⟩ := command_frame h
    exact .inl hout

/-! ### The FIFO's invariant and the writes of the micro-steps (rules R24, R35) -/

/-- The FIFO's invariant reads the parameters, the slots and the two cursors. -/
theorem State.FifoInv.of_eq {s t : State} (h : s.FifoInv) (hcfg : t.cfg = s.cfg) (hslot : t.slot = s.slot)
    (hhead : t.head = s.head) (htail : t.tail = s.tail) : t.FifoInv := by
  have hocc : t.occ = s.occ := by rw [State.occ, hcfg, hhead, htail, State.occ]
  obtain ⟨h1, h2, h3, h4, h5, h6⟩ := h
  constructor <;> simpa only [hcfg, hslot, hhead, htail, hocc]

/-- Every slot of the occupied range was written exactly when no byte held is missing. -/
theorem held_written_iff (s : State) :
    (∀ k, k < s.occ → (s.slot.read ((s.head + k) % s.cfg.cap)).isSome = true) ↔ ∀ o ∈ s.held, o.isSome = true := by
  simp [State.held]

theorem State.FifoInv.storeSlot {s : State} (h : s.FifoInv) (b : Byte) (hroom : s.occ < s.cfg.cap) :
    (s.storeSlot s.tail b).FifoInv where
  head_lt := h.head_lt
  tail_lt := h.tail_lt
  occ_le := h.occ_le
  slot_wf := Memory.wf_write _ _ _ h.slot_wf
  slot_within := Memory.within_write _ _ h.slot_within (slotIndex_lt (cap_pos _) _)
  held_written := by
    rw [held_written_iff, held_storeSlot_tail b h.head_lt h.tail_lt hroom, ← held_written_iff]
    exact h.held_written

theorem State.FifoInv.publish {s : State} (h : s.FifoInv) (hroom : s.occ < s.cfg.cap) {b : Byte}
    (hb : s.slot.read (slotIndex s.cfg.cap s.tail) = some b) : (s.publish s.tail).FifoInv where
  head_lt := h.head_lt
  tail_lt := cursorInc_lt (cap_pos _) _
  occ_le := by
    rw [occ_publish_tail h.head_lt h.tail_lt hroom]
    exact hroom
  slot_wf := h.slot_wf
  slot_within := h.slot_within
  held_written := by
    rw [held_written_iff, held_publish_tail h.head_lt h.tail_lt hroom, hb]
    simpa [or_imp, forall_and] using (held_written_iff s).mp h.held_written

theorem State.FifoInv.release {s : State} (h : s.FifoInv) (hne : s.head ≠ s.tail) : (s.release s.head).FifoInv where
  head_lt := cursorInc_lt (cap_pos _) _
  tail_lt := h.tail_lt
  occ_le := by
    have hocc := occ_release_head h.head_lt h.tail_lt hne
    have hle := h.occ_le
    show (s.release s.head).occ ≤ s.cfg.cap
    omega
  slot_wf := h.slot_wf
  slot_within := h.slot_within
  held_written := by
    have hold := (held_written_iff s).mp h.held_written
    rw [held_release_head h.head_lt h.tail_lt hne] at hold
    exact (held_written_iff _).mpr (List.forall_mem_of_forall_mem_cons hold)

/-- The oldest byte held was written: the read of `C3` finds it (rule R129). -/
theorem State.FifoInv.oldest_written {s : State} (h : s.FifoInv) (hne : s.head ≠ s.tail) :
    ∃ b, s.slot.read (slotIndex s.cfg.cap s.head) = some b := by
  have hold := (held_written_iff s).mp h.held_written
  rw [held_release_head h.head_lt h.tail_lt hne] at hold
  exact Option.isSome_iff_exists.mp (List.forall_mem_cons.mp hold).1

/-- While bytes are held and there is room, the two cursors name different slots (rule R134). -/
theorem State.FifoInv.slotIndex_head_ne_tail {s : State} (h : s.FifoInv) (hne : s.head ≠ s.tail)
    (hroom : s.occ < s.cfg.cap) : slotIndex s.cfg.cap s.head ≠ slotIndex s.cfg.cap s.tail := by
  have hocc : s.occ ≠ 0 := fun h0 => hne ((occ_eq_zero_iff h.head_lt h.tail_lt).mp h0).symm
  rw [slotIndex_tail h.tail_lt h.head_lt]
  exact slot_offset_ne (cap_pos _) hroom hocc.symm

/-! ### The cursor latches (rules R26, R27) -/

theorem latchesInRange_iff (s : State) : s.LatchesInRange ↔
    (∀ v, s.ph = some v → v < 2 * s.cfg.cap) ∧ (∀ v, s.pt = some v → v < 2 * s.cfg.cap) ∧
      (∀ v, s.ct = some v → v < 2 * s.cfg.cap) ∧ (∀ v, s.ch = some v → v < 2 * s.cfg.cap) := by
  simp [State.LatchesInRange, or_imp, forall_and, eq_comm]

theorem State.LatchesInRange.latchPh {s : State} (h : s.LatchesInRange) (hh : s.head < 2 * s.cfg.cap) :
    s.latchPh.LatchesInRange := by
  obtain ⟨-, hpt, hct, hch⟩ := (latchesInRange_iff s).mp h
  exact (latchesInRange_iff _).mpr ⟨by rintro v ⟨⟩; exact hh, hpt, hct, hch⟩

theorem State.LatchesInRange.latchPt {s : State} (h : s.LatchesInRange) (ht : s.tail < 2 * s.cfg.cap) :
    s.latchPt.LatchesInRange := by
  obtain ⟨hph, -, hct, hch⟩ := (latchesInRange_iff s).mp h
  exact (latchesInRange_iff _).mpr ⟨hph, by rintro v ⟨⟩; exact ht, hct, hch⟩

theorem State.LatchesInRange.latchCt {s : State} (h : s.LatchesInRange) (ht : s.tail < 2 * s.cfg.cap) :
    s.latchCt.LatchesInRange := by
  obtain ⟨hph, hpt, -, hch⟩ := (latchesInRange_iff s).mp h
  exact (latchesInRange_iff _).mpr ⟨hph, hpt, by rintro v ⟨⟩; exact ht, hch⟩

theorem State.LatchesInRange.latchCh {s : State} (h : s.LatchesInRange) (hh : s.head < 2 * s.cfg.cap) :
    s.latchCh.LatchesInRange := by
  obtain ⟨hph, hpt, hct, -⟩ := (latchesInRange_iff s).mp h
  exact (latchesInRange_iff _).mpr ⟨hph, hpt, hct, by rintro v ⟨⟩; exact hh⟩

/-! ### The invariant at each micro-step (rules R35, R134) -/

section
variable {s : State} (h : s.Inv)
include h

theorem State.Inv.at_p2 (hrpc : s.rpc = .p2) : ∃ b ph, s.rb = some b ∧ s.ph = some ph ∧ s.PhOk ph := by
  simpa [State.ProducerOk, hrpc] using h.producer

theorem State.Inv.at_p3 (hrpc : s.rpc = .p3) : ∃ b ph, s.rb = some b ∧ s.ph = some ph ∧ s.PhOk ph ∧
    cursorDist s.cfg.cap s.tail ph ≠ s.cfg.cap ∧ s.pt = some s.tail := by
  simpa [State.ProducerOk, hrpc] using h.producer

theorem State.Inv.at_p4 (hrpc : s.rpc = .p4) : ∃ b ph, s.rb = some b ∧ s.ph = some ph ∧ s.PhOk ph ∧
    cursorDist s.cfg.cap s.tail ph ≠ s.cfg.cap ∧ s.pt = some s.tail ∧
    s.slot.read (slotIndex s.cfg.cap s.tail) = some b := by
  simpa [State.ProducerOk, hrpc] using h.producer

theorem State.Inv.at_c2 (hcpc : s.cpc = .c2) :
    ∃ ct, s.ct = some ct ∧ ct < 2 * s.cfg.cap ∧ cursorDist s.cfg.cap ct s.head ≤ s.occ := by
  simpa [State.ConsumerOk, hcpc] using h.consumer

theorem State.Inv.at_c3 (hcpc : s.cpc = .c3) :
    ∃ ct, s.ct = some ct ∧ ct < 2 * s.cfg.cap ∧ cursorDist s.cfg.cap ct s.head ≤ s.occ ∧ ct ≠ s.head ∧
      s.ch = some s.head := by
  simpa [State.ConsumerOk, hcpc] using h.consumer

theorem State.Inv.at_c4 (hcpc : s.cpc = .c4) :
    ∃ ct b, s.ct = some ct ∧ ct < 2 * s.cfg.cap ∧ cursorDist s.cfg.cap ct s.head ≤ s.occ ∧ ct ≠ s.head ∧
      s.ch = some s.head ∧ s.cb = some b ∧ s.slot.read (slotIndex s.cfg.cap s.head) = some b := by
  simpa [State.ConsumerOk, hcpc] using h.consumer

end

/-- A copy of `TAIL` that differs from `HEAD` shows that bytes are held, since the FIFO is at least as full as it says. -/
theorem State.FifoInv.head_ne_tail_of_seen {s : State} {ct : Nat} (h : s.FifoInv) (hct : ct < 2 * s.cfg.cap)
    (hseen : cursorDist s.cfg.cap ct s.head ≤ s.occ) (hne : ct ≠ s.head) : s.head ≠ s.tail := by
  intro he
  have hocc : s.occ = 0 := (occ_eq_zero_iff h.head_lt h.tail_lt).mpr he.symm
  exact hne ((cursorDist_eq_zero hct h.head_lt).mp (by omega))

/-- A copy of `HEAD` by which the FIFO is not full shows that there is room, since it is at most as full as the copy says. -/
theorem State.PhOk.occ_lt {s : State} {ph : Nat} (h : s.PhOk ph) (hne : cursorDist s.cfg.cap s.tail ph ≠ s.cfg.cap) :
    s.occ < s.cfg.cap := by
  obtain ⟨hocc, hcap, -⟩ := h
  omega

theorem State.FifoInv.phOk_head {s : State} (h : s.FifoInv) : s.PhOk s.head := ⟨le_rfl, h.occ_le, fun _ => rfl⟩

/-! ### What one agent's write does to the other agent's latches (rule R134) -/

/-- A store changes no byte that `C3` has read. -/
theorem State.Inv.consumerOk_storeSlot {s : State} (h : s.Inv) (b : Byte) (hroom : s.occ < s.cfg.cap) :
    (s.storeSlot s.tail b).ConsumerOk := by
  cases hcpc : s.cpc with
  | c1 => simp [State.ConsumerOk, hcpc]
  | c2 | c3 => simpa [State.ConsumerOk, hcpc] using h.consumer
  | c4 =>
    obtain ⟨ct, v, hct, hlt, hseen, hne, hch, hcb, hread⟩ := h.at_c4 hcpc
    have hslots := h.slotIndex_head_ne_tail (h.head_ne_tail_of_seen hlt hseen hne) hroom
    have hread' := (Memory.read_write_other s.slot b hslots).trans hread
    simp only [State.ConsumerOk, State.storeSlot_cpc, hcpc]
    exact ⟨ct, v, hct, hlt, hseen, hne, hch, hcb, hread'⟩

/-- A publish makes a copy of `TAIL` at most more stale. -/
theorem State.Inv.consumerOk_publish {s : State} (h : s.Inv) (hroom : s.occ < s.cfg.cap) :
    (s.publish s.tail).ConsumerOk := by
  have hle : s.occ ≤ (s.publish s.tail).occ := by
    rw [occ_publish_tail h.head_lt h.tail_lt hroom]
    omega
  cases hcpc : s.cpc with
  | c1 => simp [State.ConsumerOk, hcpc]
  | c2 =>
    obtain ⟨ct, hct, hlt, hseen⟩ := h.at_c2 hcpc
    simp only [State.ConsumerOk, State.publish_cpc, hcpc]
    exact ⟨ct, hct, hlt, hseen.trans hle⟩
  | c3 =>
    obtain ⟨ct, hct, hlt, hseen, hrest⟩ := h.at_c3 hcpc
    simp only [State.ConsumerOk, State.publish_cpc, hcpc]
    exact ⟨ct, hct, hlt, hseen.trans hle, hrest⟩
  | c4 =>
    obtain ⟨ct, b, hct, hlt, hseen, hrest⟩ := h.at_c4 hcpc
    simp only [State.ConsumerOk, State.publish_cpc, hcpc]
    exact ⟨ct, b, hct, hlt, hseen.trans hle, hrest⟩

/-- A release leaves a copy of `HEAD` that shows the FIFO at least as full as it is. -/
theorem State.PhOk.release {s : State} {ph : Nat} (hph : s.PhOk ph) (hfree : s.cfg.preempt ≠ .irqAtomic)
    (hle : (s.release s.head).occ ≤ s.occ) : (s.release s.head).PhOk ph := by
  obtain ⟨hocc, hcap, -⟩ := hph
  exact ⟨hle.trans hocc, hcap, fun hp => absurd hp hfree⟩

/-- A release changes nothing the producer's latches owe: under `irq_atomic` the handler is idle. -/
theorem State.Inv.producerOk_release {s : State} (h : s.Inv) (hne : s.head ≠ s.tail)
    (hgate : s.cfg.preempt = .irqAtomic → s.rpc = .rIdle) : (s.release s.head).ProducerOk := by
  have hle : (s.release s.head).occ ≤ s.occ := by
    have := occ_release_head h.head_lt h.tail_lt hne
    omega
  cases hrpc : s.rpc with
  | rIdle | rRead => simp [State.ProducerOk, hrpc]
  | p1 => simpa [State.ProducerOk, hrpc] using h.producer
  | p2 =>
    obtain ⟨b, ph, hrb, hph, hok⟩ := h.at_p2 hrpc
    simp only [State.ProducerOk, State.release_rpc, hrpc]
    exact ⟨b, ph, hrb, hph, hok.release (fun hp => by simp [hgate hp] at hrpc) hle⟩
  | p3 =>
    obtain ⟨b, ph, hrb, hph, hok, hrest⟩ := h.at_p3 hrpc
    simp only [State.ProducerOk, State.release_rpc, hrpc]
    exact ⟨b, ph, hrb, hph, hok.release (fun hp => by simp [hgate hp] at hrpc) hle, hrest⟩
  | p4 =>
    obtain ⟨b, ph, hrb, hph, hok, hrest⟩ := h.at_p4 hrpc
    simp only [State.ProducerOk, State.release_rpc, hrpc]
    exact ⟨b, ph, hrb, hph, hok.release (fun hp => by simp [hgate hp] at hrpc) hle, hrest⟩

/-! ### Every step keeps the invariant (rules R24, R27 to R29, R35, R134) -/

/-- A step of `RXC` keeps the invariant: each micro-step leaves the latches as the next one needs them. -/
theorem stepRxc_keeps_inv {s t : State} (h : s.Inv) (hstep : stepRxc s = .next t) : t.Inv := by
  obtain rfl | ⟨hen, hcases⟩ := stepRxc_next hstep
  · exact h
  have hrun : s.en = false → t.rpc = .rIdle := fun hb => by simp [hb] at hen
  obtain ⟨-, -, rfl⟩ | ⟨-, -, rfl⟩ | ⟨-, b, r, -, rfl⟩ | ⟨hrpc, rfl⟩ | ⟨-, ph, -, -, rfl⟩ | ⟨hrpc, ph, hph, hroom, rfl⟩ |
    ⟨hrpc, pt, b, hpt, hrb, rfl⟩ | ⟨hrpc, pt, hpt, rfl⟩ := hcases
  · exact { h with producer := trivial, bench_rpc := hrun }
  · exact { h with producer := trivial, bench_rpc := hrun }
  · exact { h with producer := ⟨b, rfl⟩, bench_rpc := hrun }
  · obtain ⟨b, hrb⟩ : ∃ b, s.rb = some b := by simpa [State.ProducerOk, hrpc] using h.producer
    exact { h with
      latches_lt := h.latches_lt.latchPh h.head_lt
      producer := ⟨b, s.head, hrb, rfl, h.phOk_head⟩
      bench_rpc := hrun }
  · exact { h with latches_lt := h.latches_lt.latchPt h.tail_lt, producer := trivial, bench_rpc := hrun }
  · obtain ⟨b, ph', hrb, hph', hok⟩ := h.at_p2 hrpc
    obtain rfl : ph' = ph := by simpa [hph'] using hph
    exact { h with
      latches_lt := h.latches_lt.latchPt h.tail_lt
      producer := ⟨b, ph', hrb, hph', hok, (fullBy_eq_false_iff s ph').mp hroom, rfl⟩
      bench_rpc := hrun }
  · obtain ⟨b', ph, hrb', hph, hok, hroom, hpt'⟩ := h.at_p3 hrpc
    obtain rfl : s.tail = pt := by simpa [hpt'] using hpt
    have hfifo := h.toFifoInv.storeSlot b (hok.occ_lt hroom)
    exact { hfifo, h with
      producer := ⟨b, ph, hrb, hph, hok, hroom, hpt', Memory.read_write_same ..⟩
      consumer := h.consumerOk_storeSlot b (hok.occ_lt hroom)
      bench_rpc := hrun }
  · obtain ⟨b, ph, hrb, hph, hok, hroom, hpt', hread⟩ := h.at_p4 hrpc
    obtain rfl : s.tail = pt := by simpa [hpt'] using hpt
    have hfifo := h.toFifoInv.publish (hok.occ_lt hroom) hread
    exact { hfifo, h with
      producer := trivial
      consumer := h.consumerOk_publish (hok.occ_lt hroom)
      bench_rpc := hrun }

/-- At `POLL` the staging buffer has room and no frame is being resolved. -/
theorem State.Inv.at_poll {s : State} (h : s.Inv) (hseq : s.seq = .poll) :
    s.chunk.length < s.cfg.chunkMax ∧ s.resolving = false := by
  simpa [State.LoopOk, hseq] using h.loop

theorem benchSeq_of_run {t : State} (hen : t.en = true) (hseq : t.seq ≠ .idle) : t.en = false ↔ t.seq = .idle := by
  simp [hen, hseq]

/-- A micro-step of `POLL` behind an open gate keeps the invariant; a result takes `SEQ` where `CHUNK` fits. -/
theorem stepPoll_keeps_inv {s t : State} (h : s.Inv) (hgate : s.consGate = true) (hseq : s.seq = .poll)
    (hstep : stepPoll s = .next t) : t.Inv := by
  have hrunning : t.en = false ↔ t.seq = .idle := by
    obtain ⟨-, hen, -, -⟩ := stepPoll_frame hstep
    exact benchSeq_of_run (hen.trans (consGate_en hgate)) (stepPoll_seq_ne_idle (by simp [hseq]) hstep)
  obtain ⟨hroom, hres⟩ := h.at_poll hseq
  have hpolling : ∀ {P : Prop}, s.seq ≠ .poll → P := fun hs => absurd hseq hs
  obtain ⟨-, rfl⟩ | ⟨-, -, rfl⟩ | ⟨hcpc, ct, hct, hne, rfl⟩ | ⟨hcpc, ch, b, hch, hb, rfl⟩ | ⟨hcpc, ch, b, hch, hcb, rfl⟩ :=
    stepPoll_next hstep
  · exact { h with
      latches_lt := h.latches_lt.latchCt h.tail_lt
      consumer := ⟨s.tail, rfl, h.tail_lt, le_rfl⟩
      cpc_home := hpolling }
  · have hloop : (pollNone s.latchCh).LoopOk := by
      by_cases hc : s.chunk = []
      · simp [State.LoopOk, hc, hres]
      · simp [State.LoopOk, hc, hres, hroom.le]
    exact { h with
      latches_lt := h.latches_lt.latchCh h.head_lt
      consumer := trivial
      cpc_home := fun _ => rfl
      loop := hloop
      bench_seq := hrunning }
  · obtain ⟨ct', hct', hlt, hseen⟩ := h.at_c2 hcpc
    obtain rfl : ct' = ct := by simpa [hct'] using hct
    exact { h with
      latches_lt := h.latches_lt.latchCh h.head_lt
      consumer := ⟨ct', hct, hlt, hseen, hne.symm, rfl⟩
      cpc_home := hpolling }
  · obtain ⟨ct, hct, hlt, hseen, hne, hch'⟩ := h.at_c3 hcpc
    obtain rfl : s.head = ch := by simpa [hch'] using hch
    exact { h with
      consumer := ⟨ct, b, hct, hlt, hseen, hne, hch, rfl, hb⟩
      cpc_home := hpolling }
  · obtain ⟨ct, b', hct, hlt, hseen, hne, hch', hcb', hread⟩ := h.at_c4 hcpc
    obtain rfl : s.head = ch := by simpa [hch'] using hch
    have hheld := h.head_ne_tail_of_seen hlt hseen hne
    have hfifo := h.toFifoInv.release hheld
    have hloop : (pollSome b ((s.release s.head).record (.deq b))).LoopOk := by
      by_cases hc : s.chunk.length + 1 = s.cfg.chunkMax
      · simp [State.LoopOk, hc, hres]
      · have hmore : s.chunk.length + 1 < s.cfg.chunkMax := by omega
        simp [State.LoopOk, hc, hres, hmore]
    exact { hfifo, h with
      producer := h.producerOk_release hheld (consGate_rpc hgate)
      consumer := trivial
      cpc_home := fun _ => rfl
      loop := hloop
      bench_seq := hrunning }

/-- Off `POLL` the loop of `CONS` writes nothing but `SEQ`, `CHUNK`, `RESOLVING`, `DEC`, `OUT` and the ghost, so it keeps the
invariant when it leaves `CHUNK` and `RESOLVING` as the new position has them. -/
theorem State.Inv.loop_step {s t : State} (h : s.Inv)
    (hsame : t = { s with
      seq := t.seq, chunk := t.chunk, resolving := t.resolving, dec := t.dec, out := t.out, trace := t.trace })
    (hpos : s.seq ≠ .poll ∧ s.seq ≠ .idle) (hidle : t.seq ≠ .idle) (hloop : t.LoopOk) : t.Inv := by
  have hen : s.en = true := by simpa using mt h.bench_seq.mp hpos.2
  have hrunning : t.en = false ↔ t.seq = .idle := benchSeq_of_run (by rw [hsame]; exact hen) hidle
  generalize t.seq = seq, t.chunk = chunk, t.resolving = resolving, t.dec = dec, t.out = out, t.trace = trace at hsame
  subst hsame
  exact { h with cpc_home := fun _ => h.cpc_home hpos.1, loop := hloop, bench_seq := hrunning }

/-- `CHECK` keeps the invariant: `CHUNK` is empty there, and `RESOLVING` is set exactly where the loop goes on to `FLUSH`. -/
theorem stepCheck_keeps_inv {s : State} (h : s.Inv) (hseq : s.seq = .check) : (stepCheck s).Inv := by
  have hchunk : s.chunk = [] := by simpa [State.LoopOk, hseq] using h.loop
  obtain ⟨-, -, -, hidle⟩ := stepCheck_frame s
  have hpos : s.seq ≠ .poll ∧ s.seq ≠ .idle := by simp [hseq]
  obtain ⟨-, ht⟩ | ⟨-, ht⟩ | ⟨-, ht⟩ := stepCheck_eq s
  · rw [ht] at hidle ⊢
    exact h.loop_step rfl hpos hidle ⟨hchunk, rfl⟩
  · rw [ht] at hidle ⊢
    exact h.loop_step rfl hpos hidle ⟨by simp [hchunk], rfl⟩
  · rw [ht] at hidle ⊢
    refine h.loop_step rfl hpos hidle ?_
    cases hres : s.resolving <;> simp [State.LoopOk, hchunk, hres]

/-- A step of `CONS` keeps the invariant. -/
theorem stepCons_keeps_inv {s t : State} (h : s.Inv) (hstep : stepCons s = .next t) : t.Inv := by
  obtain rfl | ⟨hgate, ⟨hseq, hpoll⟩ | ⟨hseq, -, rfl⟩ | ⟨hseq, rfl⟩ | ⟨hseq, rfl⟩⟩ := stepCons_next hstep
  · exact h
  · exact stepPoll_keeps_inv h hgate hseq hpoll
  · exact h.loop_step rfl (by simp [hseq]) (by simp) rfl
  · exact stepCheck_keeps_inv h hseq
  · have hloop : s.chunk = [] ∧ s.resolving = true := by simpa [State.LoopOk, hseq] using h.loop
    exact h.loop_step rfl (by simp [hseq]) (by simp [stepFlush]) hloop.1

theorem lineArrives_keeps_inv {s : State} (h : s.Inv) (bs : List Byte) : (lineArrives bs s).Inv := { h with }

theorem stepWake_keeps_inv {s : State} (h : s.Inv) : (stepWake s).Inv := by
  unfold stepWake
  split
  · next hseq =>
    have hloop : s.chunk = [] ∧ s.resolving = false := by simpa [State.LoopOk, hseq] using h.loop
    exact h.loop_step rfl (by simp [hseq]) (by simp) ⟨by simp [hloop.1], hloop.2⟩
  · exact h

/-! ### Commands keep the invariant (rules R25, R99) -/

/-- In bench mode `CPC` is at home, so the consumer's latches owe nothing. -/
theorem State.Inv.bench_cpc {s : State} (h : s.Inv) (hen : s.en = false) : s.cpc = .c1 :=
  h.cpc_home (by simp [h.bench_seq.mp hen])

/-- In bench mode both agents are home: what touches the FIFO, the latches and the ghost alone has to keep only the FIFO's
invariant and the latches' range. -/
theorem State.Inv.of_bench_frame {s t : State} (h : s.Inv) (hen : s.en = false)
    (hframe : t.cfg = s.cfg ∧ t.en = s.en ∧ t.rpc = s.rpc ∧ t.seq = s.seq ∧ t.cpc = s.cpc ∧ t.chunk = s.chunk ∧
      t.resolving = s.resolving)
    (hfifo : t.FifoInv) (hlatch : t.LatchesInRange) : t.Inv := by
  obtain ⟨hcfg, hen', hrpc, hseq, hcpc, hchunk, hres⟩ := hframe
  have hidle : t.rpc = .rIdle := hrpc.trans (h.bench_rpc hen)
  have hhome : t.cpc = .c1 := hcpc.trans (h.bench_cpc hen)
  exact { hfifo with
    latches_lt := hlatch
    producer := by simp [State.ProducerOk, hidle]
    consumer := by simp [State.ConsumerOk, hhome]
    cpc_home := fun _ => hhome
    loop := by simpa only [State.LoopOk, hcfg, hseq, hchunk, hres] using h.loop
    bench_seq := by rw [hen', hseq, h.bench_seq]
    bench_rpc := fun _ => hidle }

/-- With a FIFO that is not full by its own cursors there is room. -/
theorem State.FifoInv.occ_lt_of_not_full {s : State} (h : s.FifoInv) (hf : s.fullBy s.head = false) :
    s.occ < s.cfg.cap :=
  h.phOk_head.occ_lt ((fullBy_eq_false_iff s s.head).mp hf)

theorem trySendNow_keeps_inv {s : State} (h : s.Inv) (hen : s.en = false) (b : Byte) : (trySendNow b s).1.Inv := by
  have hlatched : (s.latchRb b).latchPh.latchPt.FifoInv := h.toFifoInv.of_eq rfl rfl rfl rfl
  have hlatch := (h.latches_lt.latchPh h.head_lt).latchPt h.tail_lt
  obtain ⟨-, ht⟩ | ⟨hf, ht⟩ := trySendNow_cases b s
  · rw [ht]
    exact h.of_bench_frame hen (by simp) (hlatched.of_eq rfl rfl rfl rfl) hlatch
  · rw [ht]
    have hroom := h.occ_lt_of_not_full hf
    have hfifo := (hlatched.storeSlot b hroom).publish hroom (Memory.read_write_same ..)
    exact h.of_bench_frame hen (by simp) (hfifo.of_eq rfl rfl rfl rfl) hlatch

theorem recvNone_keeps_inv {s : State} (h : s.Inv) (hen : s.en = false) : s.latchCt.latchCh.Inv :=
  h.of_bench_frame hen (by simp) (h.toFifoInv.of_eq rfl rfl rfl rfl)
    ((h.latches_lt.latchCt h.tail_lt).latchCh h.head_lt)

theorem recvSome_keeps_inv {s : State} (h : s.Inv) (hen : s.en = false) (v : Byte) (hne : s.head ≠ s.tail) :
    (((s.latchCt.latchCh.latchCb v).release s.head).record (.deq v)).Inv :=
  have hlatched : (s.latchCt.latchCh.latchCb v).FifoInv := h.toFifoInv.of_eq rfl rfl rfl rfl
  h.of_bench_frame hen (by simp) ((hlatched.release hne).of_eq rfl rfl rfl rfl)
    ((h.latches_lt.latchCt h.tail_lt).latchCh h.head_lt)

theorem commandPieces_keep_inv : KeptByCommandPieces fun s => s.Inv ∧ s.en = false where
  arrives bs _ := fun ⟨h, hen⟩ => ⟨lineArrives_keeps_inv h bs, hen⟩
  setRx _ _ := fun ⟨h, hen⟩ => ⟨{ h with }, hen⟩
  respond _ _ := fun ⟨h, hen⟩ => ⟨{ h with }, hen⟩
  trySend b s := fun ⟨h, hen⟩ => by
    obtain ⟨-, hen', -⟩ := trySendNow_frame b s
    exact ⟨trySendNow_keeps_inv h hen b, hen'.trans hen⟩
  recvNone _ := fun ⟨h, hen⟩ => ⟨recvNone_keeps_inv h hen, hen⟩
  recvSome v _ := fun ⟨h, hen⟩ hne _ => ⟨recvSome_keeps_inv h hen v hne, hen⟩
  leave _ := fun ⟨h, hen⟩ => ⟨{ h with producer := trivial, bench_rpc := fun _ => rfl }, hen⟩

/-- `START` opens run mode at `POLL` with `CHUNK` empty (rule R191). -/
theorem start_keeps_inv {s : State} (h : s.Inv) (hen : s.en = false) : { s with en := true, seq := .poll : State }.Inv :=
  have hloop : s.chunk = [] ∧ s.resolving = false := by simpa [State.LoopOk, h.bench_seq.mp hen] using h.loop
  { h with
    cpc_home := fun _ => h.bench_cpc hen
    loop := ⟨by simp [hloop.1], hloop.2⟩
    bench_seq := by simp
    bench_rpc := by simp }

theorem command_keeps_inv {s t : State} (h : s.Inv) {i : Instr} {gaps : List (List Byte)}
    (hexec : execDuring i gaps s = .next t) : t.Inv := by
  have hen := execDuring_bench hexec
  obtain ⟨bs, rfl⟩ | rfl | ⟨hinv, -⟩ := commandPieces_keep_inv.command_next hexec ⟨h, hen⟩
  · exact { h with }
  · exact start_keeps_inv h hen
  · exact hinv

theorem Move.keeps_inv {s t : State} (hm : Move s t) (h : s.Inv) : t.Inv := by
  cases hm with
  | idle => exact h
  | arrive bs => exact lineArrives_keeps_inv h bs
  | wake => exact stepWake_keeps_inv h
  | rxc hstep => exact stepRxc_keeps_inv h hstep
  | cons hstep => exact stepCons_keeps_inv h hstep
  | command i gaps hexec => exact command_keeps_inv h hexec

/-- The invariant reads no input. -/
theorem State.Inv.withInputs {s : State} (h : s.Inv) (port : List Byte) (turns : List Turn) (tick : Nat) :
    (s.withInputs port turns tick).Inv := { h with }

/-- Settles O51: each kind of move keeps the invariant. -/
theorem stepKeepsInvariant : Obligations.StepKeepsInvariant := by
  intro s t h hstep
  obtain ⟨port, turns, tick, hm⟩ := step_move hstep
  exact hm.keeps_inv (h.withInputs port turns tick)

/-! ### The FIFO's history (rule R133) -/

@[simp] theorem enqsOf_append (tr es : List Event) : enqsOf (tr ++ es) = enqsOf tr ++ enqsOf es := List.filterMap_append

@[simp] theorem deqsOf_append (tr es : List Event) : deqsOf (tr ++ es) = deqsOf tr ++ deqsOf es := List.filterMap_append

@[simp] theorem enqsOf_map_arrive (bs : List Byte) : enqsOf (bs.map .arrive) = [] := by simp [enqsOf]

@[simp] theorem deqsOf_map_arrive (bs : List Byte) : deqsOf (bs.map .arrive) = [] := by simp [deqsOf]

/-- Events that neither enqueue nor dequeue, with the bytes held unchanged. -/
theorem State.FifoHistory.of_held_eq {s t : State} (h : s.FifoHistory) {es : List Event} (htr : t.trace = s.trace ++ es)
    (hes : enqsOf es = [] ∧ deqsOf es = []) (hheld : t.held = s.held) : t.FifoHistory := by
  rw [State.FifoHistory] at h ⊢
  simp [htr, hes, hheld, h]

theorem State.FifoHistory.of_trace_eq {s t : State} (h : s.FifoHistory) (htr : t.trace = s.trace)
    (hheld : t.held = s.held) : t.FifoHistory :=
  h.of_held_eq (es := []) (by simp [htr]) ⟨rfl, rfl⟩ hheld

theorem State.FifoHistory.enq {s t : State} (h : s.FifoHistory) {b : Byte} (htr : t.trace = s.trace ++ [Event.enq b])
    (hheld : t.held = s.held ++ [some b]) : t.FifoHistory := by
  have henq : enqsOf t.trace = enqsOf s.trace ++ [b] := by rw [htr, enqsOf_append]; rfl
  have hdeq : deqsOf t.trace = deqsOf s.trace ++ [] := by rw [htr, deqsOf_append]; rfl
  rw [State.FifoHistory] at h ⊢
  simp [henq, hdeq, hheld, h]

theorem State.FifoHistory.deq {s t : State} (h : s.FifoHistory) {b : Byte} (htr : t.trace = s.trace ++ [Event.deq b])
    (hheld : s.held = some b :: t.held) : t.FifoHistory := by
  have henq : enqsOf t.trace = enqsOf s.trace ++ [] := by rw [htr, enqsOf_append]; rfl
  have hdeq : deqsOf t.trace = deqsOf s.trace ++ [b] := by rw [htr, deqsOf_append]; rfl
  rw [State.FifoHistory] at h ⊢
  simp [henq, hdeq, h, hheld]

/-! ### The bytes held after `try_send` and `try_recv` (rules R125, R131) -/

theorem held_trySendNow_full {s : State} (b : Byte) (hf : s.fullBy s.head = true) : (trySendNow b s).1.held = s.held := by
  rw [trySendNow_full b hf]
  rfl

theorem State.FifoInv.held_trySendNow_room {s : State} (h : s.FifoInv) (b : Byte) (hf : s.fullBy s.head = false) :
    (trySendNow b s).1.held = s.held ++ [some b] := by
  have hroom := h.occ_lt_of_not_full hf
  have hstored := h.storeSlot b hroom
  have hheld := held_publish_tail hstored.head_lt hstored.tail_lt hroom
  rw [held_storeSlot_tail b h.head_lt h.tail_lt hroom] at hheld
  have hnew : (s.storeSlot s.tail b).slot.read (slotIndex s.cfg.cap s.tail) = some b := Memory.read_write_same ..
  rw [trySendNow_room b hf]
  exact hheld.trans (congrArg (fun o => s.held ++ [o]) hnew)

/-- `try_recv` on a FIFO that holds bytes removes the oldest. -/
theorem State.FifoInv.held_recvSome {s : State} (h : s.FifoInv) {v : Byte} (hne : s.head ≠ s.tail)
    (hread : s.slot.read (slotIndex s.cfg.cap s.head) = some v) :
    s.held = some v :: (((s.latchCt.latchCh.latchCb v).release s.head).record (.deq v)).held := by
  have hheld := held_release_head h.head_lt h.tail_lt hne
  rw [hread] at hheld
  rw [hheld]
  simp only [State.held, State.occ]
  rfl

theorem trySendNow_keeps_fifoHistory {s : State} (h : s.FifoHistory) (hinv : s.FifoInv) (b : Byte) :
    (trySendNow b s).1.FifoHistory := by
  cases hf : s.fullBy s.head with
  | true => exact h.of_held_eq (by rw [trySendNow_full b hf]; rfl) ⟨rfl, rfl⟩ (held_trySendNow_full b hf)
  | false => exact h.enq (by rw [trySendNow_room b hf]; rfl) (hinv.held_trySendNow_room b hf)

/-! ### Every step keeps the FIFO's history (rule R133) -/

theorem stepRxc_keeps_fifoHistory {s t : State} (h : s.FifoHistory) (hinv : s.Inv) (hstep : stepRxc s = .next t) :
    t.FifoHistory := by
  obtain rfl | ⟨-, hcases⟩ := stepRxc_next hstep
  · exact h
  obtain ⟨-, -, rfl⟩ | ⟨-, -, rfl⟩ | ⟨-, b, r, -, rfl⟩ | ⟨-, rfl⟩ | ⟨hrpc, ph, -, -, rfl⟩ | ⟨-, ph, -, -, rfl⟩ |
    ⟨hrpc, pt, b, hpt, -, rfl⟩ | ⟨hrpc, pt, hpt, rfl⟩ := hcases
  · exact h
  · exact h
  · exact h
  · exact h
  · obtain ⟨b, ph', hrb, -⟩ := hinv.at_p2 hrpc
    exact h.of_held_eq (es := [.drop b]) (by simp [hrb]) ⟨rfl, rfl⟩ rfl
  · exact h
  · obtain ⟨b', ph, -, -, hok, hroom, hpt'⟩ := hinv.at_p3 hrpc
    obtain rfl : s.tail = pt := by simpa [hpt'] using hpt
    exact h.of_trace_eq rfl (held_storeSlot_tail b hinv.head_lt hinv.tail_lt (hok.occ_lt hroom))
  · obtain ⟨b, ph, hrb, -, hok, hroom, hpt', hread⟩ := hinv.at_p4 hrpc
    obtain rfl : s.tail = pt := by simpa [hpt'] using hpt
    have hheld := held_publish_tail hinv.head_lt hinv.tail_lt (hok.occ_lt hroom)
    rw [hread] at hheld
    exact h.enq (by simp [hrb]) hheld

theorem stepPoll_keeps_fifoHistory {s t : State} (h : s.FifoHistory) (hinv : s.Inv) (hstep : stepPoll s = .next t) :
    t.FifoHistory := by
  obtain ⟨-, rfl⟩ | ⟨-, -, rfl⟩ | ⟨-, ct, -, -, rfl⟩ | ⟨-, ch, b, -, -, rfl⟩ | ⟨hcpc, ch, b, hch, hcb, rfl⟩ :=
    stepPoll_next hstep
  · exact h
  · exact h
  · exact h
  · exact h
  · obtain ⟨ct, b', -, hlt, hseen, hne, hch', hcb', hread⟩ := hinv.at_c4 hcpc
    obtain rfl : s.head = ch := by simpa [hch'] using hch
    obtain rfl : b' = b := by simpa [hcb'] using hcb
    have hheld := held_release_head hinv.head_lt hinv.tail_lt (hinv.head_ne_tail_of_seen hlt hseen hne)
    rw [hread] at hheld
    exact h.deq rfl hheld

theorem stepCheck_keeps_fifoHistory {s : State} (h : s.FifoHistory) : (stepCheck s).FifoHistory := by
  obtain ⟨-, ht⟩ | ⟨-, ht⟩ | ⟨-, ht⟩ := stepCheck_eq s
  · rw [ht]
    exact h.of_held_eq (es := [.out s.payload]) rfl ⟨rfl, rfl⟩ rfl
  · rw [ht]
    exact h
  · rw [ht]
    exact h

theorem feedDec_keeps_fifoHistory {s : State} (h : s.FifoHistory) (bs : List Byte) : (s.feedDec bs).FifoHistory :=
  h.of_held_eq (es := [.fed bs]) rfl ⟨rfl, rfl⟩ rfl

theorem stepCons_keeps_fifoHistory {s t : State} (h : s.FifoHistory) (hinv : s.Inv) (hstep : stepCons s = .next t) :
    t.FifoHistory := by
  obtain rfl | ⟨-, ⟨-, hpoll⟩ | ⟨-, -, rfl⟩ | ⟨-, rfl⟩ | ⟨-, rfl⟩⟩ := stepCons_next hstep
  · exact h
  · exact stepPoll_keeps_fifoHistory h hinv hpoll
  · exact feedDec_keeps_fifoHistory h s.chunk
  · exact stepCheck_keeps_fifoHistory h
  · exact feedDec_keeps_fifoHistory h []

theorem lineArrives_keeps_fifoHistory {s : State} (h : s.FifoHistory) (bs : List Byte) :
    (lineArrives bs s).FifoHistory :=
  h.of_held_eq (lineArrives_trace s bs) ⟨enqsOf_map_arrive bs, deqsOf_map_arrive bs⟩ rfl

theorem stepWake_keeps_fifoHistory {s : State} (h : s.FifoHistory) : (stepWake s).FifoHistory := by
  unfold stepWake
  split
  · exact h
  · exact h

theorem commandPieces_keep_fifoHistory : KeptByCommandPieces fun s => s.FifoHistory ∧ s.Inv ∧ s.en = false where
  arrives bs s := fun ⟨h, hbench⟩ => ⟨lineArrives_keeps_fifoHistory h bs, commandPieces_keep_inv.arrives bs s hbench⟩
  setRx bs s := fun ⟨h, hbench⟩ => ⟨h, commandPieces_keep_inv.setRx bs s hbench⟩
  respond bs s := fun ⟨h, hbench⟩ => ⟨h, commandPieces_keep_inv.respond bs s hbench⟩
  trySend b s := fun ⟨h, hinv, hen⟩ =>
    ⟨trySendNow_keeps_fifoHistory h hinv.toFifoInv b, commandPieces_keep_inv.trySend b s ⟨hinv, hen⟩⟩
  recvNone s := fun ⟨h, hbench⟩ => ⟨h, commandPieces_keep_inv.recvNone s hbench⟩
  recvSome v s := fun ⟨h, hinv, hen⟩ hne hread =>
    ⟨h.deq rfl (hinv.held_recvSome hne hread), commandPieces_keep_inv.recvSome v s ⟨hinv, hen⟩ hne hread⟩
  leave s := fun ⟨h, hbench⟩ => ⟨h, commandPieces_keep_inv.leave s hbench⟩

theorem command_keeps_fifoHistory {s t : State} (h : s.FifoHistory) (hinv : s.Inv) {i : Instr} {gaps : List (List Byte)}
    (hexec : execDuring i gaps s = .next t) : t.FifoHistory := by
  obtain ⟨bs, rfl⟩ | rfl | ⟨hhist, -⟩ :=
    commandPieces_keep_fifoHistory.command_next hexec ⟨h, hinv, execDuring_bench hexec⟩
  · exact feedDec_keeps_fifoHistory h bs
  · exact h
  · exact hhist

/-- Settles O53: a byte enters the history and the bytes held together at `P4`, and leaves both together at `C4`. -/
theorem fifoOrderKept : Obligations.FifoOrderKept := by
  intro s t hinv h hstep
  obtain ⟨port, turns, tick, hm⟩ := step_move hstep
  have hinv' := hinv.withInputs port turns tick
  have h' : (s.withInputs port turns tick).FifoHistory := h
  cases hm with
  | idle => exact h'
  | arrive bs => exact lineArrives_keeps_fifoHistory h' bs
  | wake => exact stepWake_keeps_fifoHistory h'
  | rxc hstep => exact stepRxc_keeps_fifoHistory h' hinv' hstep
  | cons hstep => exact stepCons_keeps_fifoHistory h' hinv' hstep
  | command i gaps hexec => exact command_keeps_fifoHistory h' hinv' hexec

/-! ### The FIFO as a queue (rules R24, R125, R131) -/

theorem exec_trySend_bench {s : State} (b : Byte) (hen : s.en = false) :
    exec (.trySend b) s = .next ((trySendNow b s).1.respond (respBool (trySendNow b s).2)) := benchOnly_bench hen _

theorem exec_tryRecv_empty {s : State} (hen : s.en = false) (he : s.head = s.tail) :
    exec .tryRecv s = .next (s.latchCt.latchCh.respond (respOption none)) :=
  (benchOnly_bench hen _).trans (if_pos he)

theorem exec_tryRecv_some {s : State} {v : Byte} (hen : s.en = false) (hne : s.head ≠ s.tail)
    (hv : s.slot.read (slotIndex s.cfg.cap s.head) = some v) :
    exec .tryRecv s =
      .next ((((s.latchCt.latchCh.latchCb v).release s.head).record (.deq v)).respond (respOption (some v))) := by
  refine (benchOnly_bench hen _).trans ((if_neg hne).trans ?_)
  rw [hv]

theorem held_eq_nil_iff {s : State} (h : s.FifoInv) : s.held = [] ↔ s.head = s.tail := by
  rw [← List.length_eq_zero_iff, held_length, occ_eq_zero_iff h.head_lt h.tail_lt, eq_comm]

/-- Settles O27: the two outcomes of `try_send` by the full test, the two of `try_recv` by the cursors. -/
theorem fifoIsABoundedQueue : Obligations.FifoIsABoundedQueue := by
  intro s h hen
  refine ⟨fun b hlen => ?room, fun b hlen => ?full, fun hnil => ?empty, fun o os hcons => ?oldest⟩
  case room =>
    have hf : s.fullBy s.head = false := (fullBy_eq_false_iff s s.head).mpr ((held_length s).symm.trans_lt hlen).ne
    refine ⟨_, exec_trySend_bench b hen, h.held_trySendNow_room b hf, ?_⟩
    rw [trySendNow_room b hf]
    rfl
  case full =>
    have hf : s.fullBy s.head = true := (fullBy_eq_true_iff s s.head).mpr ((held_length s).symm.trans hlen)
    refine ⟨_, exec_trySend_bench b hen, held_trySendNow_full b hf, ?_⟩
    rw [trySendNow_full b hf]
    rfl
  case empty => exact ⟨_, exec_tryRecv_empty hen ((held_eq_nil_iff h.toFifoInv).mp hnil), hnil, rfl⟩
  case oldest =>
    have hne : s.head ≠ s.tail := fun he => by simp [(held_eq_nil_iff h.toFifoInv).mpr he] at hcons
    obtain ⟨v, hv⟩ := h.oldest_written hne
    have hheld := h.held_recvSome hne hv
    rw [hcons] at hheld
    obtain ⟨ho, hos⟩ := List.cons.inj hheld
    refine ⟨v, _, ho, exec_tryRecv_some hen hne hv, ?_, rfl⟩
    rw [hos, State.respond_held]

/-! ### No read before a write (rule R35) -/

theorem stepRxc_ne_fault {s : State} (h : s.Inv) (f : Fault) : stepRxc s ≠ .fault f := by
  unfold stepRxc
  split
  · cases hrpc : s.rpc with
    | rIdle =>
      simp only [stepREnter]
      split <;> simp
    | rRead =>
      simp only [stepRRead]
      split <;> simp
    | p1 => simp [stepP1]
    | p2 =>
      obtain ⟨b, ph, -, hph, -⟩ := h.at_p2 hrpc
      simp only [stepP2, hph]
      split <;> simp
    | p3 =>
      obtain ⟨b, ph, hrb, -, -, -, hpt⟩ := h.at_p3 hrpc
      simp [stepP3, hpt, hrb]
    | p4 =>
      obtain ⟨b, ph, -, -, -, -, hpt, -⟩ := h.at_p4 hrpc
      simp [stepP4, hpt]
  · simp

theorem stepPoll_ne_fault {s : State} (h : s.Inv) (f : Fault) : stepPoll s ≠ .fault f := by
  unfold stepPoll
  cases hcpc : s.cpc with
  | c1 => simp [stepC1]
  | c2 =>
    obtain ⟨ct, hct, -⟩ := h.at_c2 hcpc
    simp only [stepC2, hct]
    split <;> simp
  | c3 =>
    obtain ⟨ct, -, hlt, hseen, hne, hch⟩ := h.at_c3 hcpc
    obtain ⟨b, hread⟩ := h.oldest_written (h.head_ne_tail_of_seen hlt hseen hne)
    simp [stepC3, hch, hread]
  | c4 =>
    obtain ⟨ct, b, -, -, -, -, hch, hcb, -⟩ := h.at_c4 hcpc
    simp [stepC4, hch, hcb]

theorem stepCons_ne_fault {s : State} (h : s.Inv) (f : Fault) : stepCons s ≠ .fault f := by
  unfold stepCons
  split
  · cases s.seq with
    | poll => exact stepPoll_ne_fault h f
    | feed =>
      simp only [stepFeed]
      split <;> simp
    | idle | sleep | check | flush => simp
  · simp

theorem benchOnly_fault {s : State} {r : Result} {f : Fault} (h : benchOnly s r = .fault f) : r = .fault f := by
  unfold benchOnly at h
  split at h
  · cases h
  · exact h

/-- The one read a command makes of a slot finds a byte. -/
theorem exec_ne_fault {s : State} (h : s.FifoInv) (i : Instr) (f : Fault) : exec i s ≠ .fault f := by
  intro hf
  cases i with
  | tryRecv =>
    have hf := benchOnly_fault hf
    split at hf
    · cases hf
    · next hne =>
      obtain ⟨b, hread⟩ := h.oldest_written hne
      simp [hread] at hf
  | feed | getPayload | rxregRead =>
    have hf := benchOnly_fault hf
    split at hf <;> cases hf
  | trySend | isReady | isFinish | rxService | start => cases benchOnly_fault hf

theorem execDuring_ne_fault {s : State} (h : s.FifoInv) (i : Instr) (gaps : List (List Byte)) (f : Fault) :
    execDuring i gaps s ≠ .fault f := by
  by_cases hi : i = .rxService
  · subst hi
    intro hf
    cases benchOnly_fault hf
  · obtain ⟨inside, hexec⟩ := execDuring_eq_exec hi gaps s
    have h' : (lineArrives inside s).FifoInv := { h with }
    rw [hexec]
    exact exec_ne_fault h' i f

theorem takeCommand_fault {run : Instr → State → Result} {s : State} {f : Fault} (h : takeCommand run s = .fault f) :
    ∃ i rest, run i { s with port := rest } = .fault f := by
  unfold takeCommand fetch at h
  cases hd : decode s.port with
  | ok v =>
    obtain ⟨i, rest⟩ := v
    simp only [hd] at h
    exact ⟨i, rest, h⟩
  | error e => cases e <;> simp [hd] at h

theorem stepCall_fault {w : Caller} {c : Context} {op : CtxOp} {s : State} {f : Fault} (h : stepCall w c op s = .fault f) :
    stepRxc s = .fault f ∨ stepCons s = .fault f := by
  cases w with
  | second => cases h
  | own =>
    simp only [stepCall] at h
    split at h
    · cases c with
      | irq =>
        simp only [stepOwnCall] at h
        split at h
        · exact .inl h
        · cases h
      | task =>
        simp only [stepOwnCall] at h
        split at h
        · exact .inr h
        · cases h
    · cases h

theorem takeTurn_ne_fault {s : State} (h : s.Inv) (tn : Turn) (f : Fault) : takeTurn tn s ≠ .fault f := by
  have hcommand (rest : List Byte) : ({ s with port := rest } : State).FifoInv := { h with }
  intro hf
  cases tn with
  | arrive | wake | issue => cases hf
  | rxc => exact stepRxc_ne_fault h f hf
  | cons => exact stepCons_ne_fault h f hf
  | host =>
    obtain ⟨i, rest, hf⟩ := takeCommand_fault hf
    exact exec_ne_fault (hcommand rest) i f hf
  | hostDuring gaps =>
    obtain ⟨i, rest, hf⟩ := takeCommand_fault hf
    exact execDuring_ne_fault (hcommand rest) i gaps f hf
  | call w c op => exact (stepCall_fault hf).elim (stepRxc_ne_fault h f) (stepCons_ne_fault h f)

/-- Settles O52: at every micro-step that reads, the invariant has the latch or the slot written. -/
theorem noReadBeforeWrite : Obligations.NoReadBeforeWrite := by
  intro s h f
  obtain ⟨turns, tick, hu⟩ := nextTurn_state s
  rw [step, hu]
  exact takeTurn_ne_fault (h.withInputs s.port turns tick) _ f

end Sys2Proof.Machine
end

section
/-! Proofs for 20_memory.md: the command a step takes from the port, the single-writer rule, and the order in which bytes
pass through the block. -/

namespace Sys2Proof.Machine

/-! ### The taking of a command (rules R70, R99) -/

theorem takeCommand_of_decode {run : Instr → State → Result} {s : State} {i : Instr} {rest : List Byte}
    (h : decode s.port = .ok (i, rest)) : takeCommand run s = run i { s with port := rest } := by
  simp [takeCommand, fetch, h]

/-- Settles O7: the turn is `HOST`'s by the schedule, and what it runs is the command decoded. -/
theorem stepRunsTheDecodedCommand : Obligations.StepRunsTheDecodedCommand := by
  refine ⟨fun s ts i rest hturn hdec => ?host, fun s ts gaps i rest hturn hdec => ?during⟩
  case host => exact (step_of_turns_cons hturn).trans (takeCommand_of_decode hdec)
  case during => exact (step_of_turns_cons hturn).trans (takeCommand_of_decode hdec)

/-! ### What each agent writes (rules R71, R147, R175) -/

/-- A step of `RXC` writes the producer's elements, `RXAVAIL` and the ghost, and nothing else. -/
theorem stepRxc_writes {s t : State} (h : stepRxc s = .next t) :
    t = { s with
      slot := t.slot, tail := t.tail, rpc := t.rpc, rb := t.rb, ph := t.ph, pt := t.pt, rxAvail := t.rxAvail,
      trace := t.trace } := by
  obtain rfl | ⟨-, ⟨-, -, rfl⟩ | ⟨-, -, rfl⟩ | ⟨-, b, r, -, rfl⟩ | ⟨-, rfl⟩ | ⟨-, ph, -, -, rfl⟩ | ⟨-, ph, -, -, rfl⟩ |
    ⟨-, pt, b, -, -, rfl⟩ | ⟨-, pt, -, rfl⟩⟩ := stepRxc_next h <;> rfl

/-- A micro-step of `POLL` writes `HEAD`, the consumer's latches, `CPC`, `SEQ`, `CHUNK` and the ghost, and nothing else. -/
theorem stepPoll_writes {s t : State} (h : stepPoll s = .next t) :
    t = { s with
      head := t.head, seq := t.seq, cpc := t.cpc, ct := t.ct, ch := t.ch, cb := t.cb, chunk := t.chunk,
      trace := t.trace } := by
  obtain ⟨-, rfl⟩ | ⟨-, -, rfl⟩ | ⟨-, ct, -, -, rfl⟩ | ⟨-, ch, b, -, -, rfl⟩ | ⟨-, ch, b, -, -, rfl⟩ := stepPoll_next h
    <;> rfl

/-- `CHECK` writes `SEQ`, `RESOLVING`, `OUT` and the ghost, and nothing else. -/
theorem stepCheck_writes (s : State) :
    stepCheck s = { s with
      seq := (stepCheck s).seq, resolving := (stepCheck s).resolving, out := (stepCheck s).out,
      trace := (stepCheck s).trace } := by
  obtain ⟨-, h⟩ | ⟨-, h⟩ | ⟨-, h⟩ := stepCheck_eq s <;> rw [h] <;> rfl

/-- A step of `CONS` writes the consumer's elements, those of the accumulator and the ghost, and nothing else. -/
theorem stepCons_writes {s t : State} (h : stepCons s = .next t) :
    t = { s with
      head := t.head, seq := t.seq, cpc := t.cpc, ct := t.ct, ch := t.ch, cb := t.cb, chunk := t.chunk,
      resolving := t.resolving, dec := t.dec, out := t.out, trace := t.trace } := by
  obtain rfl | ⟨-, ⟨-, hpoll⟩ | ⟨-, -, rfl⟩ | ⟨-, rfl⟩ | ⟨-, rfl⟩⟩ := stepCons_next h
  · rfl
  · rw [stepPoll_writes hpoll]
  · rfl
  · rw [stepCheck_writes s]
  · rfl

theorem stepWake_writes (s : State) : stepWake s = { s with seq := (stepWake s).seq } := by
  unfold stepWake
  split <;> rfl

/-- Settles O41: each clause reads off what its step writes. -/
theorem singleWriter : Obligations.SingleWriter := by
  intro s t
  refine ⟨fun h => ?rxc, fun h => ?cons, fun b h => ?arrive, fun h => ?wake⟩
  case rxc =>
    rw [stepRxc_writes h]
    exact ⟨rfl, rfl, rfl, rfl, rfl, rfl, rfl, rfl, rfl, rfl, rfl, rfl, rfl, rfl, rfl, rfl⟩
  case cons =>
    rw [stepCons_writes h]
    exact ⟨rfl, rfl, rfl, rfl, rfl, rfl, rfl, rfl, rfl, rfl, rfl, rfl, rfl⟩
  case arrive =>
    cases h
    rfl
  case wake =>
    cases h
    exact stepWake_writes s

/-! ### The bytes on their way through the block (rules R72, R133) -/

@[simp] theorem arrivedOf_append (tr es : List Event) : arrivedOf (tr ++ es) = arrivedOf tr ++ arrivedOf es :=
  List.filterMap_append

@[simp] theorem sentOf_append (tr es : List Event) : sentOf (tr ++ es) = sentOf tr ++ sentOf es := List.filterMap_append

@[simp] theorem fedOf_append (tr es : List Event) : fedOf (tr ++ es) = fedOf tr ++ fedOf es := by simp [fedOf]

@[simp] theorem arrivedOf_map_arrive (bs : List Byte) : arrivedOf (bs.map .arrive) = bs := by
  simp [arrivedOf, List.filterMap_map]

@[simp] theorem sentOf_map_arrive (bs : List Byte) : sentOf (bs.map .arrive) = [] := by simp [sentOf]

@[simp] theorem fedOf_map_arrive (bs : List Byte) : fedOf (bs.map .arrive) = [] := by simp [fedOf]

/-- Between two bytes the handler has none in its hands, in a `try_send` the one in `RB` (rule R26). -/
theorem inFlight_eq (s : State) : s.inFlight = if s.rpc = .rIdle ∨ s.rpc = .rRead then [] else s.rb.toList := by
  unfold State.inFlight
  cases s.rpc <;> rfl

/-- From `s` to `t` the events `es` are recorded and no byte is lost, made or overtaken: what the capture side had or got it
sent or still has, what the decoder side had or got it fed or still has. -/
structure Conserves (s t : State) (es : List Event) : Prop where
  trace : t.trace = s.trace ++ es
  capture : s.inFlight ++ s.rxAvail ++ arrivedOf es = sentOf es ++ t.inFlight ++ t.rxAvail
  feed : s.chunk ++ deqsOf es = fedOf es ++ t.chunk

theorem State.CaptureHistory.of_conserves {s t : State} {es : List Event} (h : s.CaptureHistory) (hc : Conserves s t es) :
    t.CaptureHistory :=
  calc arrivedOf t.trace
    _ = sentOf s.trace ++ (s.inFlight ++ s.rxAvail ++ arrivedOf es) := by
      rw [hc.trace, arrivedOf_append, h]
      simp only [List.append_assoc]
    _ = sentOf t.trace ++ t.inFlight ++ t.rxAvail := by
      rw [hc.capture, hc.trace, sentOf_append]
      simp only [List.append_assoc]

theorem State.FeedHistory.of_conserves {s t : State} {es : List Event} (h : s.FeedHistory) (hc : Conserves s t es) :
    t.FeedHistory :=
  calc deqsOf t.trace
    _ = fedOf s.trace ++ (s.chunk ++ deqsOf es) := by rw [hc.trace, deqsOf_append, h, List.append_assoc]
    _ = fedOf t.trace ++ t.chunk := by rw [hc.feed, hc.trace, fedOf_append, List.append_assoc]

/-- A step that records nothing and keeps every byte where it is. -/
theorem Conserves.of_eq {s t : State} (htrace : t.trace = s.trace)
    (hcapture : s.inFlight ++ s.rxAvail = t.inFlight ++ t.rxAvail) (hchunk : s.chunk = t.chunk) : Conserves s t [] where
  trace := by rw [htrace, List.append_nil]
  capture := (List.append_nil _).trans hcapture
  feed := (List.append_nil _).trans hchunk

/-- Arrivals wait at the end of the receive register. -/
theorem lineArrives_conserves (bs : List Byte) (s : State) : Conserves s (lineArrives bs s) (bs.map .arrive) where
  trace := rfl
  capture := by
    have hflight : (lineArrives bs s).inFlight = s.inFlight := rfl
    simp [hflight]
  feed := by simp

theorem stepWake_conserves (s : State) : Conserves s (stepWake s) [] := by
  rw [stepWake_writes]
  exact .of_eq rfl rfl rfl

/-- A step of `RXC`: `R-READ` takes a byte in hand, and the byte is let go on record, dropped at `P2` or enqueued at `P4`. -/
theorem stepRxc_conserves {s t : State} (hinv : s.Inv) (h : stepRxc s = .next t) : ∃ es, Conserves s t es := by
  obtain rfl | ⟨-, hcases⟩ := stepRxc_next h
  · exact ⟨[], .of_eq rfl rfl rfl⟩
  obtain ⟨hrpc, -, rfl⟩ | ⟨hrpc, -, rfl⟩ | ⟨hrpc, b, r, hav, rfl⟩ | ⟨hrpc, rfl⟩ | ⟨hrpc, ph, -, -, rfl⟩ |
    ⟨hrpc, ph, -, -, rfl⟩ | ⟨hrpc, pt, b, -, -, rfl⟩ | ⟨hrpc, pt, -, rfl⟩ := hcases
  · exact ⟨[], .of_eq rfl (by simp [inFlight_eq, hrpc]) rfl⟩
  · exact ⟨[], .of_eq rfl (by simp [inFlight_eq, hrpc]) rfl⟩
  · exact ⟨[], .of_eq rfl (by simp [inFlight_eq, hrpc, hav]) rfl⟩
  · exact ⟨[], .of_eq rfl (by simp [inFlight_eq, hrpc]) rfl⟩
  · obtain ⟨b, ph', hrb, -⟩ := hinv.at_p2 hrpc
    exact ⟨[.drop b], by simp [hrb], by simp [inFlight_eq, hrpc, hrb, arrivedOf, sentOf], List.append_nil _⟩
  · exact ⟨[], .of_eq rfl (by simp [inFlight_eq, hrpc]) rfl⟩
  · exact ⟨[], .of_eq rfl (by simp [inFlight_eq, hrpc]) rfl⟩
  · obtain ⟨b, ph, hrb, -⟩ := hinv.at_p4 hrpc
    exact ⟨[.enq b], by simp [hrb], by simp [inFlight_eq, hrpc, hrb, arrivedOf, sentOf], List.append_nil _⟩

/-- A micro-step of `POLL`: `C4` moves its byte from the FIFO to the end of `CHUNK`. -/
theorem stepPoll_conserves {s t : State} (h : stepPoll s = .next t) : ∃ es, Conserves s t es := by
  obtain ⟨-, rfl⟩ | ⟨-, -, rfl⟩ | ⟨-, ct, -, -, rfl⟩ | ⟨-, ch, b, -, -, rfl⟩ | ⟨-, ch, b, -, -, rfl⟩ := stepPoll_next h
  · exact ⟨[], .of_eq rfl rfl rfl⟩
  · exact ⟨[], .of_eq rfl rfl rfl⟩
  · exact ⟨[], .of_eq rfl rfl rfl⟩
  · exact ⟨[], .of_eq rfl rfl rfl⟩
  · exact ⟨[.deq b], rfl, List.append_nil _, rfl⟩

/-- `CHECK` moves no byte; what it emits is not on its way through the block. -/
theorem stepCheck_conserves (s : State) : ∃ es, Conserves s (stepCheck s) es := by
  obtain ⟨-, ht⟩ | ⟨-, ht⟩ | ⟨-, ht⟩ := stepCheck_eq s
  · rw [ht]
    exact ⟨[.out s.payload], rfl, List.append_nil _, List.append_nil _⟩
  · rw [ht]
    exact ⟨[], .of_eq rfl rfl rfl⟩
  · rw [ht]
    exact ⟨[], .of_eq rfl rfl rfl⟩

/-- A step of `CONS`: the `FEED` step feeds the whole `CHUNK` and empties it. -/
theorem stepCons_conserves {s t : State} (h : stepCons s = .next t) : ∃ es, Conserves s t es := by
  obtain rfl | ⟨-, ⟨-, hpoll⟩ | ⟨-, -, rfl⟩ | ⟨-, rfl⟩ | ⟨-, rfl⟩⟩ := stepCons_next h
  · exact ⟨[], .of_eq rfl rfl rfl⟩
  · exact stepPoll_conserves hpoll
  · exact ⟨[.fed s.chunk], rfl, List.append_nil _, by simp [deqsOf, fedOf]⟩
  · exact stepCheck_conserves s
  · exact ⟨[.fed []], rfl, List.append_nil _, List.append_nil _⟩

/-- In run mode no command answers, and each agent and the environment conserve the bytes. -/
theorem Move.conserves {s t : State} (hm : Move s t) (hinv : s.Inv) (hen : s.en = true) : ∃ es, Conserves s t es := by
  cases hm with
  | idle => exact ⟨[], .of_eq rfl rfl rfl⟩
  | arrive bs => exact ⟨_, lineArrives_conserves bs s⟩
  | wake => exact ⟨[], stepWake_conserves s⟩
  | rxc hstep => exact stepRxc_conserves hinv hstep
  | cons hstep => exact stepCons_conserves hstep
  | command i gaps hexec => simp [execDuring_bench hexec] at hen

/-- Settles O54: both laws follow from what the step records and where it leaves the bytes. -/
theorem arrivalOrderKeptThroughTheBlock : Obligations.ArrivalOrderKeptThroughTheBlock := by
  intro s t hinv hen hstep
  obtain ⟨port, turns, tick, hm⟩ := step_move hstep
  obtain ⟨es, hc⟩ := hm.conserves (hinv.withInputs port turns tick) hen
  have hc : Conserves s t es := { hc with }
  exact ⟨fun h => h.of_conserves hc, fun h => h.of_conserves hc⟩

end Sys2Proof.Machine
end

section
/-! Proofs for 30_encoding.md: the command port's encoding both ways and its refusals, arrivals before and inside a command,
and what `RX_SERVICE` stores. -/

namespace Sys2Proof.Machine

/-! ### Counts (rule R93) -/

theorem countOf_ofNat {n : Nat} (h : n < 65536) : countOf (BitVec.ofNat 8 (n / 256)) (BitVec.ofNat 8 n) = n := by
  simp only [countOf, BitVec.toNat_ofNat]
  omega

theorem countOf_lt (hi lo : Byte) : countOf hi lo < 65536 := by
  have hhi := hi.isLt
  have hlo := lo.isLt
  simp only [countOf]
  omega

theorem countBytes_countOf (hi lo : Byte) : countBytes (countOf hi lo) = [hi, lo] := by
  have hhi := hi.isLt
  have hlo := lo.isLt
  have hhigh : BitVec.ofNat 8 (countOf hi lo / 256) = hi := by
    apply BitVec.eq_of_toNat_eq
    simp only [countOf, BitVec.toNat_ofNat]
    omega
  have hlow : BitVec.ofNat 8 (countOf hi lo) = lo := by
    apply BitVec.eq_of_toNat_eq
    simp only [countOf, BitVec.toNat_ofNat]
    omega
  rw [countBytes, hhigh, hlow]

/-! ### The decoder (rules R91 to R95) -/

theorem decodeCounted_countBytes {bs : List Byte} (h : bs.length < 65536) (rest : List Byte) :
    decodeCounted (countBytes bs.length ++ (bs ++ rest)) = .ok (.feed bs, rest) := by
  simp [countBytes, decodeCounted, countOf_ofNat h]

theorem decodeCounted_short {hi lo : Byte} {data : List Byte} (h : data.length < countOf hi lo) :
    decodeCounted (hi :: lo :: data) = .error .truncated := by
  simp [decodeCounted, h]

/-- Settles O1: the opcode selects the command again, and the count of a `FEED` is the length of its data. -/
theorem decodeOfEncodeGivesTheCommand : Obligations.DecodeOfEncodeGivesTheCommand := by
  intro i rest hwf
  cases i with
  | feed bs =>
    have hlen : bs.length < 65536 := by simpa [Instr.WellFormed] using hwf
    rw [encode, List.cons_append, List.append_assoc]
    exact decodeCounted_countBytes hlen rest
  | trySend | tryRecv | isReady | isFinish | getPayload | rxService | rxregRead | start => rfl

theorem decode_encode (i : Instr) (h : i.WellFormed = true) : decode (encode i) = .ok (i, []) := by
  simpa using decodeOfEncodeGivesTheCommand i [] h

theorem decodeByteOperand_ok {bs rest : List Byte} {i : Instr} (h : decodeByteOperand bs = .ok (i, rest)) :
    ∃ b, i = .trySend b ∧ bs = b :: rest := by
  cases bs with
  | nil => cases h
  | cons b bs =>
    cases h
    exact ⟨b, rfl, rfl⟩

theorem decodeCounted_ok {bs rest : List Byte} {i : Instr} (h : decodeCounted bs = .ok (i, rest)) :
    ∃ data, i = .feed data ∧ data.length < 65536 ∧ bs = countBytes data.length ++ (data ++ rest) := by
  match bs with
  | [] | [_] => cases h
  | hi :: lo :: bs =>
    rw [decodeCounted] at h
    split at h
    · next hle =>
      cases h
      have hlen : (bs.take (countOf hi lo)).length = countOf hi lo := List.length_take_of_le hle
      refine ⟨_, rfl, hlen.trans_lt (countOf_lt hi lo), ?_⟩
      rw [hlen, countBytes_countOf, List.take_append_drop]
      rfl
    · cases h

/-- Settles O2: opcode by opcode, the operand forms by what `decodeByteOperand` and `decodeCounted` read. -/
theorem decodedBytesAreTheEncoding : Obligations.DecodedBytesAreTheEncoding := by
  intro bs rest i h
  cases bs with
  | nil => cases h
  | cons op bs =>
    simp only [decode] at h
    split_ifs at h with h01 h02 h10 h11 h12 h13 h20 h21 h30
    · obtain ⟨b, rfl, rfl⟩ := decodeByteOperand_ok h
      exact ⟨rfl, h01 ▸ rfl⟩
    · cases h
      exact ⟨rfl, h02 ▸ rfl⟩
    · obtain ⟨data, rfl, hlen, rfl⟩ := decodeCounted_ok h
      exact ⟨decide_eq_true hlen, by rw [h10, encode, List.cons_append, List.append_assoc]⟩
    all_goals
      cases h
      subst op
      exact ⟨rfl, rfl⟩

/-- Rule R95: the decoder's opcodes are those of rule R94's map. -/
theorem decode_of_opcode_not_mapped {op : Byte} (rest : List Byte) (h : ∀ row ∈ opcodeMap, row.opcode ≠ op) :
    decode (op :: rest) = .error .reservedOpcode := by
  simp only [opcodeMap, List.forall_mem_cons] at h
  obtain ⟨h01, h02, h10, h11, h12, h13, h20, h21, h30, -⟩ := h
  rw [decode, if_neg h01.symm, if_neg h02.symm, if_neg h10.symm, if_neg h11.symm, if_neg h12.symm, if_neg h13.symm,
    if_neg h20.symm, if_neg h21.symm, if_neg h30.symm]

/-! ### The refusals of the taking of a command (rule R95) -/

theorem takeCommand_of_reserved {run : Instr → State → Result} {s : State}
    (h : decode s.port = .error .reservedOpcode) : takeCommand run s = .refused .reservedOpcode := by
  simp [takeCommand, fetch, h]

theorem takeCommand_of_truncated {run : Instr → State → Result} {s : State}
    (h : decode s.port = .error .truncated) : takeCommand run s = .refused .truncated := by
  simp [takeCommand, fetch, h]

/-- When `HOST`'s turn is next the step takes a command, with arrivals inside it or without. -/
theorem step_of_host_turn {s : State} {tn : Turn} {ts : List Turn} (htn : tn = .host ∨ ∃ gaps, tn = .hostDuring gaps)
    (h : s.turns = tn :: ts) : ∃ run, step s = takeCommand run { s with turns := ts } := by
  rw [step_of_turns_cons h]
  obtain rfl | ⟨gaps, rfl⟩ := htn
  · exact ⟨exec, rfl⟩
  · exact ⟨fun i s' => execDuring i gaps s', rfl⟩

/-- Settles O3: whichever way the command is to run, the decoder gives none. -/
theorem bytesThatSpellNoCommandAreRefused : Obligations.BytesThatSpellNoCommandAreRefused := by
  intro s tn ts htn hturns
  obtain ⟨run, hstep⟩ := step_of_host_turn htn hturns
  refine ⟨fun op rest hport hop => ?reserved, fun hi lo data hport hshort => ?truncated⟩
  case reserved =>
    rw [hstep]
    exact takeCommand_of_reserved ((congrArg decode hport).trans (decode_of_opcode_not_mapped rest hop))
  case truncated =>
    rw [hstep]
    exact takeCommand_of_truncated ((congrArg decode hport).trans (decodeCounted_short hshort))

/-! ### An instruction word of the opcode table (rules R91, R94) -/

theorem tableBytes_length (nbits w : Nat) : (tableBytes nbits w).length =
    commandLength (tableByte nbits w 0) (tableByte nbits w 1) (tableByte nbits w 2) := by
  simp [tableBytes]

/-- Rule R91: the bytes of a command give its length, whatever stands after them. -/
theorem commandLength_of_starts_with {i : Instr} (hwf : i.WellFormed = true) {f : Nat → Byte}
    (h : ∀ k, k < (encode i).length → f k = (encode i).getD k 0) :
    commandLength (f 0) (f 1) (f 2) = (encode i).length := by
  cases i with
  | feed bs =>
    rw [Laws.EncodedLength.feed bs hwf, h 0 (by simp [encode]), h 1 (by simp [encode, countBytes]),
      h 2 (by simp [encode, countBytes])]
  | trySend | tryRecv | isReady | isFinish | getPayload | rxService | rxregRead | start =>
    rw [h 0 (Nat.zero_lt_succ _)]
    rfl

/-- The bytes of an instruction word that decodes are the command's, with nothing after them. -/
theorem tableBytes_eq_encode {nbits w : Nat} {i : Instr} (h : decodeTableWord nbits w = some i) :
    i.WellFormed = true ∧ tableBytes nbits w = encode i := by
  unfold decodeTableWord at h
  split at h
  · next j rest hdec =>
    cases h
    obtain ⟨hwf, heq⟩ := decodedBytesAreTheEncoding _ _ _ hdec
    have hbyte : ∀ k, k < (encode i).length → tableByte nbits w k = (encode i).getD k 0 := by
      intro k hk
      have hk' : k < (tableBytes nbits w).length := by
        rw [heq, List.length_append]
        omega
      calc tableByte nbits w k
        _ = (tableBytes nbits w).getD k 0 := by
          rw [List.getD_eq_getElem _ _ hk']
          simp [tableBytes]
        _ = (encode i).getD k 0 := by rw [heq, List.getD_append _ _ _ _ hk]
    have hlen := congrArg List.length heq
    rw [tableBytes_length, commandLength_of_starts_with hwf hbyte, List.length_append] at hlen
    have hrest : rest = [] := List.eq_nil_of_length_eq_zero (by omega)
    exact ⟨hwf, by rw [heq, hrest, List.append_nil]⟩
  · cases h

/-- Settles O9: the word's bytes are the command's encoding, and taking them off the port gives back the state. -/
theorem placedWordIsTheNextCommand : Obligations.PlacedWordIsTheNextCommand := by
  intro s nbits w i h
  obtain ⟨hwf, hbytes⟩ := tableBytes_eq_encode h
  have hport : (s.withFetchWord nbits w).port = encode i ++ s.port := congrArg (· ++ s.port) hbytes
  have hdec := decodeOfEncodeGivesTheCommand i s.port hwf
  exact stepRunsTheDecodedCommand.1 _ s.turns i s.port rfl (hport ▸ hdec)

/-! ### The worked encodings and the responses (rules R96, R101) -/

/-- Settles O4: the encoder's words by its table, each decoded by `decode_encode`. -/
theorem workedEncodings : Obligations.WorkedEncodings := by
  have hfeed : encode (.feed [0x02, 0xDE, 0xAD, 0x8D]) = [0x10, 0x00, 0x04, 0x02, 0xDE, 0xAD, 0x8D] := by decide
  have hempty : encode (.feed []) = [0x10, 0x00, 0x00] := by decide
  have hpayload : respPayload [0xDE, 0xAD] = [0x00, 0x02, 0xDE, 0xAD] := by decide
  exact ⟨rfl, decode_encode (.trySend 0x41) rfl, rfl, decode_encode .tryRecv rfl,
    hfeed, hfeed ▸ decode_encode (.feed _) rfl, hempty, hempty ▸ decode_encode (.feed []) rfl,
    rfl, decode_encode .getPayload rfl, hpayload, rfl, decode_encode .start rfl, rfl⟩

/-- Settles O5: the codes by their tables, the count of a payload by `countOf_ofNat`. -/
theorem responseCodes : Obligations.ResponseCodes :=
  ⟨rfl, rfl, rfl, fun _ => rfl, fun _ hlen => ⟨_, _, rfl, countOf_ofNat hlen⟩⟩

/-! ### Run mode (rule R99) -/

/-- Settles O21: every command's meaning is under `benchOnly`. -/
theorem runModeRefusesEveryCommand : Obligations.RunModeRefusesEveryCommand := by
  intro i s hen
  cases i <;> exact benchOnly_run hen _

/-! ### The ghost up to the place of the arrivals (rules R34, R141) -/

@[simp] theorem othersOf_append (tr es : List Event) : othersOf (tr ++ es) = othersOf tr ++ othersOf es :=
  List.filter_append ..

@[simp] theorem othersOf_map_arrive (bs : List Byte) : othersOf (bs.map .arrive) = [] := by simp [othersOf]

/-- What was sent is on record among the events other than arrivals. -/
theorem sentOf_othersOf (tr : List Event) : sentOf (othersOf tr) = sentOf tr := by
  rw [sentOf, othersOf, List.filterMap_filter, sentOf]
  congr 1
  funext e
  cases e <;> rfl

theorem lineArrives_append (bs cs : List Byte) (s : State) :
    lineArrives cs (lineArrives bs s) = lineArrives (bs ++ cs) s := by
  simp [lineArrives]

/-- `t` is `s` but for the ghost, and the ghosts list the same arrivals and the same other events, each in order: only where
the arrivals stand among the other events may differ. -/
def GhostAlike (s t : State) : Prop :=
  ∃ tr, t = { s with trace := tr } ∧ arrivedOf tr = arrivedOf s.trace ∧ othersOf tr = othersOf s.trace

namespace GhostAlike

theorem refl (s : State) : GhostAlike s s := ⟨s.trace, rfl, rfl, rfl⟩

theorem symm {s t : State} : GhostAlike s t → GhostAlike t s := by
  rintro ⟨tr, rfl, harr, hoth⟩
  exact ⟨s.trace, rfl, harr.symm, hoth.symm⟩

theorem trans {s t u : State} : GhostAlike s t → GhostAlike t u → GhostAlike s u := by
  rintro ⟨tr, rfl, harr, hoth⟩ ⟨tr', rfl, harr', hoth'⟩
  exact ⟨tr', rfl, harr'.trans harr, hoth'.trans hoth⟩

theorem lineArrives {s t : State} (bs : List Byte) :
    GhostAlike s t → GhostAlike (Machine.lineArrives bs s) (Machine.lineArrives bs t) := by
  rintro ⟨tr, rfl, harr, hoth⟩
  exact ⟨tr ++ bs.map .arrive, rfl, by simp [harr], by simp [hoth]⟩

theorem setRx {s t : State} (bs : List Byte) : GhostAlike s t → GhostAlike (s.setRx bs) (t.setRx bs) := by
  rintro ⟨tr, rfl, harr, hoth⟩
  exact ⟨tr, rfl, harr, hoth⟩

theorem respond {s t : State} (bs : List Byte) : GhostAlike s t → GhostAlike (s.respond bs) (t.respond bs) := by
  rintro ⟨tr, rfl, harr, hoth⟩
  exact ⟨tr, rfl, harr, hoth⟩

theorem leaveHandler {s t : State} : GhostAlike s t → GhostAlike s.leaveHandler t.leaveHandler := by
  rintro ⟨tr, rfl, harr, hoth⟩
  exact ⟨tr, rfl, harr, hoth⟩

/-- `try_send` does not read the ghost. -/
theorem trySendNow {s t : State} (b : Byte) :
    GhostAlike s t → GhostAlike (Machine.trySendNow b s).1 (Machine.trySendNow b t).1 := by
  rintro ⟨tr, rfl, harr, hoth⟩
  cases hf : s.fullBy s.head with
  | true =>
    rw [trySendNow_full b hf, trySendNow_full (s := { s with trace := tr }) b hf]
    exact ⟨tr ++ [.drop b], rfl, by simp [harr], by simp [hoth]⟩
  | false =>
    rw [trySendNow_room b hf, trySendNow_room (s := { s with trace := tr }) b hf]
    exact ⟨tr ++ [.enq b], rfl, by simp [harr], by simp [hoth]⟩

theorem serviceLoop {s t : State} (bs : List Byte) (h : GhostAlike s t) :
    GhostAlike (Machine.serviceLoop bs s) (Machine.serviceLoop bs t) := by
  induction bs generalizing s t with
  | nil => exact h
  | cons b r ih => exact ih ((h.setRx r).trySendNow b)

end GhostAlike

/-! ### A byte that arrives before a command (rules R99, R141) -/

/-- An event other than an arrival, and arrivals: they may be recorded in either order. -/
theorem lineArrives_record (bs : List Byte) (s : State) {e : Event} (he : arrivedOf [e] = []) :
    GhostAlike (lineArrives bs (s.record e)) ((lineArrives bs s).record e) :=
  ⟨s.trace ++ bs.map .arrive ++ [e], rfl,
    by simp only [lineArrives_trace, State.record_trace, arrivedOf_append, he, List.append_nil],
    by simp only [lineArrives_trace, State.record_trace, othersOf_append, othersOf_map_arrive, List.append_nil]⟩

/-- `try_send` does not read the receive register. -/
theorem trySendNow_lineArrives (b : Byte) (bs : List Byte) (s : State) :
    GhostAlike (lineArrives bs (trySendNow b s).1) (trySendNow b (lineArrives bs s)).1 ∧
      (trySendNow b (lineArrives bs s)).2 = (trySendNow b s).2 := by
  cases hf : s.fullBy s.head with
  | true =>
    rw [trySendNow_full b hf, trySendNow_full (s := lineArrives bs s) b hf]
    exact ⟨lineArrives_record bs _ rfl, rfl⟩
  | false =>
    rw [trySendNow_room b hf, trySendNow_room (s := lineArrives bs s) b hf]
    exact ⟨lineArrives_record bs _ rfl, rfl⟩

/-- The outcome `r'` is the outcome `r` with the bytes `bs` arrived besides. -/
def AlsoArrived (bs : List Byte) (r r' : Result) : Prop :=
  match r with
  | .next t => ∃ t', r' = .next t' ∧ GhostAlike (lineArrives bs t) t'
  | .fault f => r' = .fault f
  | .refused q => r' = .refused q

namespace AlsoArrived

theorem next {bs : List Byte} {t t' : State} (h : GhostAlike (lineArrives bs t) t') :
    AlsoArrived bs (.next t) (.next t') := ⟨t', rfl, h⟩

/-- Arrivals that commute with what is done to the state. -/
theorem next_lineArrives (bs : List Byte) (t : State) : AlsoArrived bs (.next t) (.next (lineArrives bs t)) :=
  next (.refl _)

theorem nothing (r : Result) : AlsoArrived [] r r := by
  cases r with
  | next t => exact next (by rw [lineArrives_nil]; exact .refl t)
  | fault | refused => rfl

theorem benchOnly {bs : List Byte} {r r' : Result} (s : State) (h : AlsoArrived bs r r') :
    AlsoArrived bs (Machine.benchOnly s r) (Machine.benchOnly s r') := by
  unfold Machine.benchOnly
  split
  · rfl
  · exact h

theorem ite {bs : List Byte} {c : Prop} [Decidable c] {r r' q q' : Result} (hr : AlsoArrived bs r r')
    (hq : AlsoArrived bs q q') : AlsoArrived bs (if c then r else q) (if c then r' else q') := by
  split
  · exact hr
  · exact hq

end AlsoArrived

/-- What arrives before a command that does not read the receive register might as well arrive after it. -/
theorem exec_lineArrives {i : Instr} (hservice : i ≠ .rxService) (hread : i ≠ .rxregRead) (bs : List Byte) (s : State) :
    AlsoArrived bs (exec i s) (exec i (lineArrives bs s)) := by
  cases i with
  | rxService => exact absurd rfl hservice
  | rxregRead => exact absurd rfl hread
  | trySend b =>
    obtain ⟨hstate, hanswer⟩ := trySendNow_lineArrives b bs s
    refine .benchOnly s ?_
    rw [hanswer]
    exact .next (hstate.respond _)
  | tryRecv =>
    refine .benchOnly s (.ite (.next_lineArrives bs _) ?_)
    simp only [lineArrives_slot, lineArrives_cfg, lineArrives_head]
    cases s.slot.read (slotIndex s.cfg.cap s.head) with
    | none => rfl
    | some v => exact .next ((lineArrives_record bs _ rfl).respond _)
  | feed data =>
    have hfed := lineArrives_record bs { s with dec := s.dec ++ [data] } (e := .fed data) rfl
    exact .benchOnly s (.ite rfl (.next hfed))
  | isReady | isFinish | start => exact .benchOnly s (.next_lineArrives bs _)
  | getPayload => exact .benchOnly s (.ite (.next_lineArrives bs _) rfl)

/-- Settles O25: with one byte arriving, `exec_lineArrives`. -/
theorem arrivalCommutesWithCommands : Obligations.ArrivalCommutesWithCommands := by
  intro i b s t hservice hread hexec
  have h := exec_lineArrives hservice hread [b] s
  rw [hexec] at h
  obtain ⟨t', ht', tr, rfl, -, -⟩ := h
  exact ⟨_, ht', rfl⟩

/-! ### Arrivals inside a command (rules R99, R146; log 9) -/

theorem headD_append_flatten_tail (gaps : List (List Byte)) : gaps.headD [] ++ gaps.tail.flatten = gaps.flatten := by
  cases gaps <;> rfl

theorem first_three_gaps (gaps : List (List Byte)) :
    gaps.headD [] ++ gaps.tail.headD [] ++ (gaps.drop 2).headD [] ++ (gaps.drop 3).flatten = gaps.flatten := by
  match gaps with
  | [] | [_] | [_, _] | _ :: _ :: _ :: _ => simp

theorem lineArrives_thrice_record (g₁ g₂ g₃ : List Byte) (s : State) {e : Event} (he : arrivedOf [e] = []) :
    GhostAlike (lineArrives (g₁ ++ g₂ ++ g₃) (s.record e))
      ((lineArrives g₃ (lineArrives g₂ (lineArrives g₁ s))).record e) := by
  rw [lineArrives_append, lineArrives_append, ← List.append_assoc]
  exact lineArrives_record _ _ he

/-- What arrives inside a `try_send` might as well arrive after it, and the gaps list it first. -/
theorem trySendDuring_alike (b : Byte) (gaps : List (List Byte)) (s : State) :
    ∃ inside, inside ++ (trySendDuring b gaps s).2.2.flatten = gaps.flatten ∧
      GhostAlike (lineArrives inside (trySendNow b s).1) (trySendDuring b gaps s).1 ∧
      (trySendDuring b gaps s).2.1 = (trySendNow b s).2 := by
  cases hf : s.fullBy s.head with
  | true =>
    rw [trySendDuring_full b gaps hf, trySendNow_full b hf]
    exact ⟨gaps.headD [], headD_append_flatten_tail gaps, lineArrives_record _ _ rfl, rfl⟩
  | false =>
    rw [trySendDuring_room b gaps hf, trySendNow_room b hf]
    exact ⟨_, first_three_gaps gaps, lineArrives_thrice_record _ _ _ _ rfl, rfl⟩

/-- What arrives inside a command other than `RX_SERVICE` might as well arrive after it, and the gaps list it first. -/
theorem execDuring_alsoArrived {i : Instr} (hi : i ≠ .rxService) (gaps : List (List Byte)) (s : State) :
    ∃ inside, inside <+: gaps.flatten ∧ AlsoArrived inside (exec i s) (execDuring i gaps s) := by
  cases i with
  | rxService => exact absurd rfl hi
  | trySend b =>
    obtain ⟨inside, hgaps, hstate, hanswer⟩ := trySendDuring_alike b gaps s
    refine ⟨inside, ⟨_, hgaps⟩, .benchOnly s ?_⟩
    rw [hanswer]
    exact .next (hstate.respond _)
  | tryRecv =>
    by_cases he : s.head = s.tail
    · refine ⟨gaps.headD [], ⟨_, headD_append_flatten_tail gaps⟩, .benchOnly s ?_⟩
      simp only [if_pos he]
      exact .next_lineArrives _ _
    · refine ⟨_, ⟨_, first_three_gaps gaps⟩, .benchOnly s ?_⟩
      simp only [if_neg he]
      cases s.slot.read (slotIndex s.cfg.cap s.head) with
      | none => rfl
      | some v => exact .next ((lineArrives_thrice_record _ _ _ _ rfl).respond _)
  | feed | isReady | isFinish | getPayload | rxregRead | start => exact ⟨[], List.nil_prefix, .nothing _⟩

theorem benchOnly_next_refused {s t : State} {q : Refusal} (h : benchOnly s (.next t) = .refused q) (u : State) :
    benchOnly s (.next u) = .refused q := by
  cases hen : s.en with
  | true => rwa [benchOnly_run hen] at h ⊢
  | false => cases (benchOnly_bench hen _).symm.trans h

/-- Settles O26: but for `RX_SERVICE`, `execDuring_alsoArrived`; and `RX_SERVICE` is only ever refused by `benchOnly`. -/
theorem arrivalsInsideACommand : Obligations.ArrivalsInsideACommand := by
  intro i gaps s
  refine ⟨execDuring_nil i s, fun t hi hexec => ?next, fun q hexec => ?refused, fun f hexec => ?fault⟩
  case next =>
    obtain ⟨inside, hprefix, h⟩ := execDuring_alsoArrived hi gaps s
    rw [hexec] at h
    obtain ⟨t', ht', tr, rfl, harr, hoth⟩ := h
    exact ⟨_, inside, ht', hprefix, rfl, by simp [harr], by simp [hoth]⟩
  case refused =>
    by_cases hi : i = .rxService
    · subst hi
      exact benchOnly_next_refused hexec _
    · obtain ⟨inside, -, h⟩ := execDuring_alsoArrived hi gaps s
      rwa [hexec] at h
  case fault =>
    by_cases hi : i = .rxService
    · subst hi
      cases benchOnly_fault hexec
    · obtain ⟨inside, -, h⟩ := execDuring_alsoArrived hi gaps s
      rwa [hexec] at h

/-! ### What `RX_SERVICE` stores and drops (rules R122, R146) -/

/-- From `s` to `t` the bytes `bs` were sent in order by `try_send`, none is left in the receive register, and nothing was
received: the FIFO took what it had room for and dropped the rest, and stored to no slot but those at `TAIL` and above. -/
structure Served (bs : List Byte) (s t : State) : Prop where
  waiting : t.rxAvail = []
  head : t.head = s.head
  held : t.held = (s.held ++ bs.map some).take s.cfg.cap
  trace : t.trace = s.trace ++ (bs.take (s.cfg.cap - s.occ)).map Event.enq ++ (bs.drop (s.cfg.cap - s.occ)).map Event.drop
  slot : ∀ i, (∀ k, k < bs.length → k < s.cfg.cap - s.occ → i ≠ slotIndex s.cfg.cap (s.tail + k)) →
    t.slot.read i = s.slot.read i

@[simp] theorem arrivedOf_map_enq (bs : List Byte) : arrivedOf (bs.map .enq) = [] := by simp [arrivedOf]

@[simp] theorem arrivedOf_map_drop (bs : List Byte) : arrivedOf (bs.map .drop) = [] := by simp [arrivedOf]

@[simp] theorem sentOf_map_enq (bs : List Byte) : sentOf (bs.map .enq) = bs := by simp [sentOf, List.filterMap_map]

@[simp] theorem sentOf_map_drop (bs : List Byte) : sentOf (bs.map .drop) = bs := by simp [sentOf, List.filterMap_map]

theorem Served.arrivedOf_trace {bs : List Byte} {s t : State} (h : Served bs s t) :
    arrivedOf t.trace = arrivedOf s.trace := by
  rw [h.trace, arrivedOf_append, arrivedOf_append, arrivedOf_map_enq, arrivedOf_map_drop, List.append_nil, List.append_nil]

theorem Served.sentOf_trace {bs : List Byte} {s t : State} (h : Served bs s t) :
    sentOf t.trace = sentOf s.trace ++ bs := by
  rw [h.trace, sentOf_append, sentOf_append, sentOf_map_enq, sentOf_map_drop, List.append_assoc, List.take_append_drop]

theorem Served.nil {s : State} (h : s.FifoInv) (hrx : s.rxAvail = []) : Served [] s s where
  waiting := hrx
  head := rfl
  held := by
    have hlen : s.held.length ≤ s.cfg.cap := (held_length s).trans_le h.occ_le
    simp [List.take_of_length_le hlen]
  trace := by simp
  slot _ _ := rfl

/-- A full FIFO drops the first byte, and has no room for the others either. -/
theorem Served.cons_of_full {b : Byte} {r : List Byte} {s t : State} (hf : s.fullBy s.head = true)
    (h : Served r (trySendNow b s).1 t) : Served (b :: r) s t := by
  have hocc : s.occ = s.cfg.cap := (fullBy_eq_true_iff s s.head).mp hf
  have hlen : s.held.length = s.cfg.cap := (held_length s).trans hocc
  rw [trySendNow_full b hf] at h
  obtain ⟨hwaiting, hhead, hheld, htrace, hslot⟩ := h
  exact {
    waiting := hwaiting
    head := hhead
    held := hheld.trans ((List.take_left' hlen).trans (List.take_left' hlen).symm)
    trace := by simpa [hocc] using htrace
    slot := fun i _ => hslot i (by simp [hocc]) }

theorem slotIndex_cursorInc_add (cap c k : Nat) : slotIndex cap (cursorInc cap c + k) = slotIndex cap (c + (k + 1)) := by
  rw [slotIndex, cursorInc, ← mod_two_mul_mod, Nat.mod_add_mod, mod_two_mul_mod, slotIndex, Nat.add_right_comm,
    Nat.add_assoc]

/-- With room the first byte is stored at `TAIL`, and the others have one place less. -/
theorem Served.cons_of_room {b : Byte} {r : List Byte} {s t : State} (hinv : s.FifoInv) (hf : s.fullBy s.head = false)
    (h : Served r (trySendNow b s).1 t) : Served (b :: r) s t := by
  have hroom := hinv.occ_lt_of_not_full hf
  have hheld' := hinv.held_trySendNow_room b hf
  have hocc' : (trySendNow b s).1.occ = s.occ + 1 := by rw [← held_length, hheld']; simp
  have hone : s.cfg.cap - s.occ = (s.cfg.cap - (s.occ + 1)) + 1 := by omega
  obtain ⟨hwaiting, hhead, hheld, htrace, hslot⟩ := h
  rw [hocc', trySendNow_room b hf] at htrace hslot
  exact {
    waiting := hwaiting
    head := hhead.trans (by rw [trySendNow_room b hf]; rfl)
    held := by
      rw [hheld, hheld', trySendNow_room b hf]
      simp
    trace := by
      rw [htrace, hone]
      simp
    slot := fun i hi => by
      have hne : i ≠ slotIndex s.cfg.cap s.tail := hi 0 (by simp) (by omega)
      refine (hslot i fun k hk hlt => ?_).trans (Memory.read_write_other _ b hne)
      have := hi (k + 1) (by simpa using hk) (by simp at hlt; omega)
      rwa [← slotIndex_cursorInc_add] at this }

/-- The handler's loop over the bytes waiting (rules R144 to R146). -/
theorem serviceLoop_served {s : State} (h : s.Inv) (hen : s.en = false) {bs : List Byte} (hrx : s.rxAvail = bs) :
    Served bs s (serviceLoop bs s) := by
  induction bs generalizing s with
  | nil => exact .nil h.toFifoInv hrx
  | cons b r ih =>
    have hread : (s.setRx r).Inv := { h with }
    obtain ⟨-, hen', -, -, hrx'⟩ := trySendNow_frame b (s.setRx r)
    have hrest := ih (trySendNow_keeps_inv hread hen b) (hen'.trans hen) hrx'
    have hall : Served (b :: r) (s.setRx r) (serviceLoop (b :: r) s) := by
      cases hf : (s.setRx r).fullBy (s.setRx r).head with
      | true => exact hrest.cons_of_full hf
      | false => exact hrest.cons_of_room hread.toFifoInv hf
    exact { hall with }

/-! ### Arrivals inside `RX_SERVICE` (rules R144, R146; log 9) -/

/-- One round of the handler's loop: what arrives inside it might as well arrive after it, and the gaps list it first. -/
theorem serviceRound_alike (b : Byte) (r : List Byte) (gaps : List (List Byte)) (s : State) :
    let sent := trySendDuring b gaps.tail (arriveNext gaps (s.setRx r))
    ∃ early, early ++ sent.2.2.tail.flatten = gaps.flatten ∧
      GhostAlike (lineArrives early (trySendNow b (s.setRx r)).1) (arriveNext sent.2.2 sent.1) := by
  intro sent
  obtain ⟨inside, hgaps, hsent, -⟩ := trySendDuring_alike b gaps.tail (arriveNext gaps (s.setRx r))
  obtain ⟨hread, -⟩ := trySendNow_lineArrives b (gaps.headD []) (s.setRx r)
  refine ⟨gaps.headD [] ++ inside ++ sent.2.2.headD [], ?_, ?_⟩
  · rw [List.append_assoc, headD_append_flatten_tail, List.append_assoc, hgaps, headD_append_flatten_tail]
  · rw [← lineArrives_append, ← lineArrives_append]
    exact ((hread.lineArrives inside).trans hsent).lineArrives _

/-- With fuel for every byte that may come, the loop with arrivals inside is the loop over the bytes that waited and those
that arrived inside, had these arrived before it. -/
theorem serviceDuring_alike (n : Nat) (gaps : List (List Byte)) (s : State)
    (hn : s.rxAvail.length + gaps.flatten.length ≤ n) :
    ∃ inside, inside <+: gaps.flatten ∧
      GhostAlike (serviceLoop (s.rxAvail ++ inside) (lineArrives inside s)) (serviceDuring n gaps s) := by
  induction n generalizing gaps s with
  | zero =>
    have hrx : s.rxAvail = [] := List.eq_nil_of_length_eq_zero (by omega)
    exact ⟨[], List.nil_prefix, by simp [hrx, serviceLoop, serviceDuring, GhostAlike.refl]⟩
  | succ n ih =>
    cases hrx : s.rxAvail with
    | nil => exact ⟨[], List.nil_prefix, by simp [hrx, serviceLoop, serviceDuring, GhostAlike.refl]⟩
    | cons b r =>
      obtain ⟨early, hgaps, hround⟩ := serviceRound_alike b r gaps s
      simp only [serviceDuring, hrx]
      set sent := trySendDuring b gaps.tail (arriveNext gaps (s.setRx r))
      set s' := arriveNext sent.2.2 sent.1
      have hrx' : s'.rxAvail = r ++ early := by
        obtain ⟨tr, hs', -⟩ := hround
        obtain ⟨-, -, -, -, hsent⟩ := trySendNow_frame b (s.setRx r)
        rw [hs']
        exact congrArg (· ++ early) hsent
      have hn' : s'.rxAvail.length + sent.2.2.tail.flatten.length ≤ n := by
        rw [← hgaps] at hn
        simp only [hrx, hrx', List.length_cons, List.length_append] at hn ⊢
        omega
      obtain ⟨inside, hprefix, hloop⟩ := ih sent.2.2.tail s' hn'
      refine ⟨early ++ inside, hgaps ▸ (List.prefix_append_right_inj early).mpr hprefix, .trans ?_ hloop⟩
      obtain ⟨hsend, -⟩ := trySendNow_lineArrives b (early ++ inside) (s.setRx r)
      have hstart := hround.lineArrives inside
      rw [lineArrives_append] at hstart
      rw [hrx', List.append_assoc]
      exact (hsend.symm.trans hstart).serviceLoop _

/-- `RX_SERVICE` with arrivals inside is `RX_SERVICE` with those bytes arrived before it (rule R146). -/
theorem rxServiceDuring_alike {s : State} (hen : s.en = false) (gaps : List (List Byte)) :
    ∃ t inside, execDuring .rxService gaps s = .next t ∧ gaps.headD [] <+: inside ∧ inside <+: gaps.flatten ∧
      GhostAlike (serviceLoop (s.rxAvail ++ inside) (lineArrives inside s)).leaveHandler t := by
  have hgaps := headD_append_flatten_tail gaps
  obtain ⟨inside, hprefix, hloop⟩ := serviceDuring_alike (s.rxAvail.length + gaps.flatten.length) gaps.tail
    (arriveNext gaps s) (by rw [← hgaps]; simp [arriveNext_eq]; omega)
  refine ⟨_, gaps.headD [] ++ inside, benchOnly_bench hen _, List.prefix_append _ _,
    hgaps ▸ (List.prefix_append_right_inj _).mpr hprefix, ?_⟩
  rw [← lineArrives_append, ← List.append_assoc]
  exact hloop.leaveHandler

/-- Settles O28: the loop by `serviceLoop_served`, and with arrivals inside by the loop had they come before it. -/
theorem rxServiceStoresUpToCapacity : Obligations.RxServiceStoresUpToCapacity := by
  intro s h hen
  refine ⟨?alone, fun gaps => ?during⟩
  case alone =>
    have hs := serviceLoop_served h hen rfl
    exact ⟨_, benchOnly_bench hen _, hs.waiting, rfl, hs.head, hs.held, hs.trace, hs.slot⟩
  case during =>
    obtain ⟨_, inside, hexec, hfirst, hprefix, tr, rfl, harr, hoth⟩ := rxServiceDuring_alike hen gaps
    have hs := serviceLoop_served (lineArrives_keeps_inv h inside) hen rfl
    refine ⟨_, inside, hexec, hfirst, hprefix, hs.waiting, rfl, hs.head, hs.held, ?arrived, ?sent⟩
    case arrived =>
      calc arrivedOf tr
        _ = arrivedOf (lineArrives inside s).trace := harr.trans hs.arrivedOf_trace
        _ = arrivedOf s.trace ++ inside := by simp
    case sent =>
      calc sentOf tr
        _ = sentOf (serviceLoop (s.rxAvail ++ inside) (lineArrives inside s)).trace := by
          rw [← sentOf_othersOf tr, hoth, sentOf_othersOf]
          rfl
        _ = sentOf (lineArrives inside s).trace ++ (s.rxAvail ++ inside) := hs.sentOf_trace
        _ = sentOf s.trace ++ (s.rxAvail ++ inside) := by simp

end Sys2Proof.Machine
end

section
/-! Proofs for 41_spsc_fifo.md: the micro-steps of both sides and the commands `TRY_SEND`, `TRY_RECV` and `RX_SERVICE` made of
them, what the commands leave unchanged, which calls are an agent's own step, and where a byte may be lost or a slot accessed. -/

namespace Sys2Proof.Machine

/-! ### The producer's micro-steps, outcome by outcome (rules R35, R121 to R124) -/

section
variable {s : State} (hen : s.en = true)
include hen

theorem stepRxc_at_p1 (hrpc : s.rpc = .p1) : stepRxc s = stepP1 s := by simp [stepRxc, hen, hrpc]

theorem stepRxc_at_p2 (hrpc : s.rpc = .p2) : stepRxc s = stepP2 s := by simp [stepRxc, hen, hrpc]

theorem stepRxc_at_p3 (hrpc : s.rpc = .p3) : stepRxc s = stepP3 s := by simp [stepRxc, hen, hrpc]

theorem stepRxc_at_p4 (hrpc : s.rpc = .p4) : stepRxc s = stepP4 s := by simp [stepRxc, hen, hrpc]

end

theorem recordRb_of_some {s : State} {b : Byte} (hrb : s.rb = some b) (f : Byte → Event) :
    s.recordRb f = s.record (f b) := by
  simp [State.recordRb, State.record, hrb]

theorem stepP2_full {s : State} {ph : Nat} {b : Byte} (hph : s.ph = some ph) (hrb : s.rb = some b)
    (hf : s.fullBy ph = true) : stepP2 s = .next ((s.latchPt.record (.drop b)).goRpc .rRead) := by
  have hdrop : s.latchPt.recordRb .drop = s.latchPt.record (.drop b) := recordRb_of_some (s := s.latchPt) hrb _
  simp [stepP2, hph, hf, hdrop]

theorem stepP2_room {s : State} {ph : Nat} (hph : s.ph = some ph) (hf : s.fullBy ph = false) :
    stepP2 s = .next (s.latchPt.goRpc .p3) := by
  simp [stepP2, hph, hf]

theorem stepP2_unlatched {s : State} (hph : s.ph = none) : stepP2 s = .fault (.latchUnwritten .ph) := by
  simp [stepP2, hph]

theorem stepP3_store {s : State} {pt : Nat} {b : Byte} (hpt : s.pt = some pt) (hrb : s.rb = some b) :
    stepP3 s = .next ((s.storeSlot pt b).goRpc .p4) := by
  simp [stepP3, hpt, hrb]

theorem stepP3_pt_unlatched {s : State} (hpt : s.pt = none) : stepP3 s = .fault (.latchUnwritten .pt) := by
  simp [stepP3, hpt]

theorem stepP3_rb_unlatched {s : State} {pt : Nat} (hpt : s.pt = some pt) (hrb : s.rb = none) :
    stepP3 s = .fault (.latchUnwritten .rb) := by
  simp [stepP3, hpt, hrb]

theorem stepP4_publish {s : State} {pt : Nat} {b : Byte} (hpt : s.pt = some pt) (hrb : s.rb = some b) :
    stepP4 s = .next (((s.publish pt).record (.enq b)).goRpc .rRead) := by
  have henq : (s.publish pt).recordRb .enq = (s.publish pt).record (.enq b) :=
    recordRb_of_some (s := s.publish pt) hrb _
  simp [stepP4, hpt, henq]

theorem stepP4_unlatched {s : State} (hpt : s.pt = none) : stepP4 s = .fault (.latchUnwritten .pt) := by
  simp [stepP4, hpt]

/-- Settles O31: at each position of `RPC` the micro-step, by what the latches hold and by the full test. -/
theorem producerMicroSteps : Obligations.ProducerMicroSteps := by
  intro s hen
  refine ⟨stepRxc_at_p1 hen, fun ph b hrpc hph hrb hfull => ?drop, fun ph hrpc hph hroom => ?room,
    fun pt b hrpc hpt hrb => ?store, fun pt b hrpc hpt hrb => ?publish, fun hrpc hph => ?noPh, fun hrpc hpt => ?noPt,
    fun pt hrpc hpt hrb => ?noRb, fun hrpc hpt => ?noPtAtP4⟩
  case drop => exact (stepRxc_at_p2 hen hrpc).trans (stepP2_full hph hrb ((fullBy_eq_true_iff s ph).mpr hfull))
  case room => exact (stepRxc_at_p2 hen hrpc).trans (stepP2_room hph ((fullBy_eq_false_iff s ph).mpr hroom))
  case store => exact (stepRxc_at_p3 hen hrpc).trans (stepP3_store hpt hrb)
  case publish => exact (stepRxc_at_p4 hen hrpc).trans (stepP4_publish hpt hrb)
  case noPh => exact (stepRxc_at_p2 hen hrpc).trans (stepP2_unlatched hph)
  case noPt => exact (stepRxc_at_p3 hen hrpc).trans (stepP3_pt_unlatched hpt)
  case noRb => exact (stepRxc_at_p3 hen hrpc).trans (stepP3_rb_unlatched hpt hrb)
  case noPtAtP4 => exact (stepRxc_at_p4 hen hrpc).trans (stepP4_unlatched hpt)

/-! ### The consumer's micro-steps in `POLL`, outcome by outcome (rules R35, R127 to R130, R192 to R194) -/

theorem consGate_iff (s : State) :
    s.consGate = true ↔ s.en = true ∧ (s.cfg.preempt = .freeInterleave ∨ s.rpc = .rIdle) := by
  simp [State.consGate]

theorem stepCons_at_poll {s : State} (hgate : s.consGate = true) (hseq : s.seq = .poll) : stepCons s = stepPoll s := by
  simp [stepCons, hgate, hseq]

theorem stepPoll_c1 {s : State} (hcpc : s.cpc = .c1) : stepPoll s = .next (s.latchCt.goCpc .c2) := by
  simp [stepPoll, hcpc, stepC1]

theorem stepPoll_c2_empty {s : State} (hcpc : s.cpc = .c2) (hct : s.ct = some s.head) :
    stepPoll s = .next (pollNone s.latchCh) := by
  simp [stepPoll, hcpc, stepC2, hct]

theorem stepPoll_c2_seen {s : State} {ct : Nat} (hcpc : s.cpc = .c2) (hct : s.ct = some ct) (hne : s.head ≠ ct) :
    stepPoll s = .next (s.latchCh.goCpc .c3) := by
  simp [stepPoll, hcpc, stepC2, hct, hne]

theorem stepPoll_c2_unlatched {s : State} (hcpc : s.cpc = .c2) (hct : s.ct = none) :
    stepPoll s = .fault (.latchUnwritten .ct) := by
  simp [stepPoll, hcpc, stepC2, hct]

theorem stepPoll_c3_read {s : State} {ch : Nat} {b : Byte} (hcpc : s.cpc = .c3) (hch : s.ch = some ch)
    (hread : s.slot.read (slotIndex s.cfg.cap ch) = some b) : stepPoll s = .next ((s.latchCb b).goCpc .c4) := by
  simp [stepPoll, hcpc, stepC3, hch, hread]

theorem stepPoll_c3_unlatched {s : State} (hcpc : s.cpc = .c3) (hch : s.ch = none) :
    stepPoll s = .fault (.latchUnwritten .ch) := by
  simp [stepPoll, hcpc, stepC3, hch]

theorem stepPoll_c3_unwritten {s : State} {ch : Nat} (hcpc : s.cpc = .c3) (hch : s.ch = some ch)
    (hread : s.slot.read (slotIndex s.cfg.cap ch) = none) : stepPoll s = .fault .slotUnwritten := by
  simp [stepPoll, hcpc, stepC3, hch, hread]

theorem stepPoll_c4_release {s : State} {ch : Nat} {b : Byte} (hcpc : s.cpc = .c4) (hch : s.ch = some ch)
    (hcb : s.cb = some b) : stepPoll s = .next (pollSome b ((s.release ch).record (.deq b))) := by
  simp [stepPoll, hcpc, stepC4, hch, hcb]

theorem stepPoll_c4_ch_unlatched {s : State} (hcpc : s.cpc = .c4) (hch : s.ch = none) :
    stepPoll s = .fault (.latchUnwritten .ch) := by
  simp [stepPoll, hcpc, stepC4, hch]

theorem stepPoll_c4_cb_unlatched {s : State} {ch : Nat} (hcpc : s.cpc = .c4) (hch : s.ch = some ch)
    (hcb : s.cb = none) : stepPoll s = .fault (.latchUnwritten .cb) := by
  simp [stepPoll, hcpc, stepC4, hch, hcb]

/-- `POLL` completing with `none` (rule R193): it goes to sleep exactly with nothing staged. -/
theorem pollNone_eq (s : State) : pollNone s = (s.goCpc .c1).goSeq (if s.chunk = [] then .sleep else .feed) := by
  simp [pollNone]

theorem pollSome_of_full {s : State} (b : Byte) (hfull : s.chunk.length + 1 = s.cfg.chunkMax) :
    pollSome b s = ((s.setChunk (s.chunk ++ [b])).goCpc .c1).goSeq .feed := by
  simp [pollSome, hfull]

theorem pollSome_of_room {s : State} (b : Byte) (hroom : s.chunk.length + 1 ≠ s.cfg.chunkMax) :
    pollSome b s = ((s.setChunk (s.chunk ++ [b])).goCpc .c1).goSeq .poll := by
  simp [pollSome, hroom]

/-- Settles O32: at each position of `CPC` the micro-step, by what the latches hold and what `POLL` does with a result. -/
theorem consumerMicroSteps : Obligations.ConsumerMicroSteps := by
  intro s hen hseq hpreempt
  have hpoll : stepCons s = stepPoll s := stepCons_at_poll ((consGate_iff s).mpr ⟨hen, hpreempt⟩) hseq
  rw [hpoll]
  refine ⟨stepPoll_c1, fun hcpc hct hchunk => ?sleep, fun hcpc hct hchunk => ?feed, fun ct => stepPoll_c2_seen,
    fun ch b => stepPoll_c3_read, fun ch b hcpc hch hcb hfull => ?chunkFull, fun ch b hcpc hch hcb hroom => ?chunkRoom,
    stepPoll_c2_unlatched, stepPoll_c3_unlatched, fun ch => stepPoll_c3_unwritten, stepPoll_c4_ch_unlatched,
    fun ch => stepPoll_c4_cb_unlatched⟩
  case sleep =>
    rw [stepPoll_c2_empty hcpc hct, pollNone_eq, State.latchCh_chunk, if_pos hchunk]
    rfl
  case feed =>
    rw [stepPoll_c2_empty hcpc hct, pollNone_eq, State.latchCh_chunk, if_neg hchunk]
    rfl
  case chunkFull =>
    exact (stepPoll_c4_release hcpc hch hcb).trans (congrArg _ (pollSome_of_full b hfull))
  case chunkRoom =>
    exact (stepPoll_c4_release hcpc hch hcb).trans (congrArg _ (pollSome_of_room b hroom))

/-! ### `TRY_SEND` and `TRY_RECV` (rules R125, R131) -/

theorem exec_trySend_full {s : State} (b : Byte) (hen : s.en = false) (hf : s.fullBy s.head = true) :
    exec (.trySend b) s =
      .next (((s.latchRb b).latchPh.latchPt.record (.drop b)).respond (respBool false)) := by
  rw [exec_trySend_bench b hen, trySendNow_full b hf]

theorem exec_trySend_room {s : State} (b : Byte) (hen : s.en = false) (hf : s.fullBy s.head = false) :
    exec (.trySend b) s =
      .next ((((((s.latchRb b).latchPh.latchPt).storeSlot s.tail b).publish s.tail).record (.enq b)).respond
        (respBool true)) := by
  rw [exec_trySend_bench b hen, trySendNow_room b hf]

theorem exec_tryRecv_unwritten {s : State} (hen : s.en = false) (hne : s.head ≠ s.tail)
    (hread : s.slot.read (slotIndex s.cfg.cap s.head) = none) : exec .tryRecv s = .fault .slotUnwritten := by
  refine (benchOnly_bench hen _).trans ((if_neg hne).trans ?_)
  rw [hread]

/-- Settles O12: the two outcomes of the full test. -/
theorem trySendCommand : Obligations.TrySendCommand := by
  intro b s
  refine ⟨fun rest => decodeOfEncodeGivesTheCommand (.trySend b) rest rfl, runModeRefusesEveryCommand _ s,
    fun hen hfull => ?full, fun hen hroom => ?room⟩
  case full => exact exec_trySend_full b hen ((fullBy_eq_true_iff s s.head).mpr hfull)
  case room => exact exec_trySend_room b hen ((fullBy_eq_false_iff s s.head).mpr hroom)

/-- Settles O13: empty by the cursors, a byte, or the read that rule R35 makes a fault. -/
theorem tryRecvCommand : Obligations.TryRecvCommand := by
  intro s
  exact ⟨fun rest => decodeOfEncodeGivesTheCommand .tryRecv rest rfl, runModeRefusesEveryCommand _ s,
    exec_tryRecv_empty, fun v => exec_tryRecv_some, exec_tryRecv_unwritten⟩

/-! ### The commands as their micro-steps in a row (rules R125, R131, R267) -/

theorem iterate_two {f : State → Result} {s t u : State} (h₁ : f s = .next t) (h₂ : f t = .next u) :
    iterate f 2 s = .next u := by
  simp [iterate, h₁, h₂]

theorem iterate_four {f : State → Result} {s t u v w : State} (h₁ : f s = .next t) (h₂ : f t = .next u)
    (h₃ : f u = .next v) (h₄ : f v = .next w) : iterate f 4 s = .next w := by
  simp [iterate, h₁, h₂, h₃, h₄]

/-- Settles O29: `P1` copies `HEAD`, so `P2` makes the command's full test, and `P3` and `P4` use the copy of `TAIL`. -/
theorem trySendIsItsMicroSteps : Obligations.TrySendIsItsMicroSteps := by
  intro b s hen _
  refine ⟨fun hfull => ?full, fun hroom => ?room⟩
  case full =>
    have hf : s.fullBy s.head = true := (fullBy_eq_true_iff s s.head).mpr hfull
    exact ⟨_, exec_trySend_full b hen hf, iterate_two (stepRxc_at_p1 rfl rfl)
      ((stepRxc_at_p2 rfl rfl).trans (stepP2_full rfl rfl hf))⟩
  case room =>
    have hf : s.fullBy s.head = false := (fullBy_eq_false_iff s s.head).mpr hroom
    exact ⟨_, exec_trySend_room b hen hf, iterate_four (stepRxc_at_p1 rfl rfl)
      ((stepRxc_at_p2 rfl rfl).trans (stepP2_room rfl hf)) ((stepRxc_at_p3 rfl rfl).trans (stepP3_store rfl rfl))
      ((stepRxc_at_p4 rfl rfl).trans (stepP4_publish rfl rfl))⟩

theorem stepCons_of_stepPoll {s t : State} (hgate : s.consGate = true) (hseq : s.seq = .poll)
    (h : stepPoll s = .next t) : stepCons s = .next t := (stepCons_at_poll hgate hseq).trans h

/-- A `try_recv` of `POLL` with no step between, on an empty FIFO. -/
theorem iterate_stepCons_none {s : State} (hgate : s.consGate = true) (hseq : s.seq = .poll) (hcpc : s.cpc = .c1)
    (hempty : s.head = s.tail) : iterate stepCons 2 s = .next (pollNone (s.latchCt.goCpc .c2).latchCh) :=
  iterate_two (stepCons_of_stepPoll hgate hseq (stepPoll_c1 hcpc))
    (stepCons_of_stepPoll hgate hseq (stepPoll_c2_empty rfl (congrArg some hempty.symm)))

/-- A `try_recv` of `POLL` with no step between, on a FIFO that holds bytes. -/
theorem iterate_stepCons_some {s : State} {v : Byte} (hgate : s.consGate = true) (hseq : s.seq = .poll)
    (hcpc : s.cpc = .c1) (hne : s.head ≠ s.tail) (hread : s.slot.read (slotIndex s.cfg.cap s.head) = some v) :
    iterate stepCons 4 s = .next (pollSome v
      ((((((s.latchCt.goCpc .c2).latchCh.goCpc .c3).latchCb v).goCpc .c4).release s.head).record (.deq v))) :=
  iterate_four (stepCons_of_stepPoll hgate hseq (stepPoll_c1 hcpc))
    (stepCons_of_stepPoll hgate hseq (stepPoll_c2_seen rfl rfl hne))
    (stepCons_of_stepPoll hgate hseq (stepPoll_c3_read rfl rfl hread))
    (stepCons_of_stepPoll (by simpa [consGate_iff] using hgate) (by simpa using hseq)
      (stepPoll_c4_release rfl (by simp) rfl))

/-- Settles O30: with no step between, the copies `C1` and `C2` take are the cursors the command tests and reads by. -/
theorem tryRecvIsItsMicroSteps : Obligations.TryRecvIsItsMicroSteps := by
  intro s hen hrpc hcpc
  have hgate : ({ s with en := true, seq := .poll } : State).consGate = true := (consGate_iff _).mpr ⟨rfl, .inr hrpc⟩
  refine ⟨fun hempty => ?empty, fun v hne hread => ?byte⟩
  case empty =>
    refine ⟨_, exec_tryRecv_empty hen hempty, (iterate_stepCons_none hgate rfl hcpc hempty).trans ?_⟩
    by_cases hchunk : s.chunk = [] <;> simp [pollNone_eq, State.goCpc, State.goSeq, hcpc, hchunk]
  case byte =>
    refine ⟨_, exec_tryRecv_some hen hne hread, (iterate_stepCons_some hgate rfl hcpc hne hread).trans ?_⟩
    simp [pollSome, State.setChunk, State.goCpc, State.goSeq, hcpc]

/-! ### `RX_SERVICE` as its loop (rules R144 to R146) -/

theorem exec_rxService_bench {s : State} (hen : s.en = false) :
    exec .rxService s = .next (serviceLoop s.rxAvail s).leaveHandler := benchOnly_bench hen _

/-- One round of the loop: the command is itself after the first byte waiting was read and sent. -/
theorem exec_rxService_cons {s : State} {b : Byte} {r : List Byte} (hen : s.en = false) (hrx : s.rxAvail = b :: r) :
    exec .rxService s = exec .rxService (trySendNow b (s.setRx r)).1 := by
  obtain ⟨-, hen', -, -, hrx'⟩ := trySendNow_frame b (s.setRx r)
  rw [exec_rxService_bench hen, exec_rxService_bench (hen'.trans hen), hrx, hrx']
  rfl

theorem serviceLoop_rxAvail {bs : List Byte} {s : State} (hrx : s.rxAvail = bs) : (serviceLoop bs s).rxAvail = [] := by
  induction bs generalizing s with
  | nil => exact hrx
  | cons b r ih =>
    obtain ⟨-, -, -, -, hrx'⟩ := trySendNow_frame b (s.setRx r)
    exact ih hrx'

/-- Settles O19: the loop's two ends, and its round by the two outcomes of `try_send`. -/
theorem rxServiceCommand : Obligations.RxServiceCommand := by
  intro s
  refine ⟨fun rest => decodeOfEncodeGivesTheCommand .rxService rest rfl, runModeRefusesEveryCommand _ s,
    fun hen hrx => ?nothing, fun b r hen hrx hfull => ?full, fun b r hen hrx hroom => ?room, fun hen => ?completes⟩
  case nothing =>
    have hexec := exec_rxService_bench hen
    rw [hrx] at hexec
    exact hexec
  case full =>
    rw [exec_rxService_cons hen hrx, trySendNow_full (s := s.setRx r) b ((fullBy_eq_true_iff s s.head).mpr hfull)]
    rfl
  case room =>
    rw [exec_rxService_cons hen hrx, trySendNow_room (s := s.setRx r) b ((fullBy_eq_false_iff s s.head).mpr hroom)]
    rfl
  case completes => exact ⟨_, exec_rxService_bench hen, serviceLoop_rxAvail rfl, rfl⟩

/-! ### What each command writes, and nothing else (rules R125, R131, R142, R146, R163 to R168, R191) -/

theorem trySendNow_writes (b : Byte) (s : State) :
    (trySendNow b s).1 = { s with
      slot := (trySendNow b s).1.slot, tail := (trySendNow b s).1.tail, rb := (trySendNow b s).1.rb,
      ph := (trySendNow b s).1.ph, pt := (trySendNow b s).1.pt, trace := (trySendNow b s).1.trace } := by
  obtain ⟨-, h⟩ | ⟨-, h⟩ := trySendNow_cases b s <;> rw [h] <;> rfl

theorem serviceLoop_writes (bs : List Byte) (s : State) :
    serviceLoop bs s = { s with
      slot := (serviceLoop bs s).slot, tail := (serviceLoop bs s).tail, rb := (serviceLoop bs s).rb,
      ph := (serviceLoop bs s).ph, pt := (serviceLoop bs s).pt, rxAvail := (serviceLoop bs s).rxAvail,
      trace := (serviceLoop bs s).trace } := by
  induction bs generalizing s with
  | nil => rfl
  | cons b r ih =>
    rw [serviceLoop, ih, trySendNow_writes]
    rfl

theorem exec_trySend_writes {b : Byte} {s t : State} (h : exec (.trySend b) s = .next t) :
    t = { s with
      slot := t.slot, tail := t.tail, rb := t.rb, ph := t.ph, pt := t.pt, trace := t.trace, resp := t.resp } := by
  obtain ⟨-, rfl⟩ := exec_trySend_next h
  rw [trySendNow_writes]
  rfl

theorem exec_tryRecv_writes {s t : State} (h : exec .tryRecv s = .next t) :
    t = { s with head := t.head, ct := t.ct, ch := t.ch, cb := t.cb, trace := t.trace, resp := t.resp } := by
  obtain ⟨-, h⟩ := benchOnly_next h
  split at h
  · cases h
    rfl
  · split at h
    · cases h
    · cases h
      rfl

theorem exec_feed_writes {bs : List Byte} {s t : State} (h : exec (.feed bs) s = .next t) :
    t = { s with dec := t.dec, trace := t.trace } := by
  obtain ⟨-, h⟩ := benchOnly_next h
  split at h <;> cases h
  rfl

theorem exec_observer_writes {i : Instr} (hi : i = .isReady ∨ i = .isFinish ∨ i = .getPayload) {s t : State}
    (h : exec i s = .next t) : t = { s with resp := t.resp } := by
  obtain rfl | rfl | rfl := hi
  · obtain ⟨-, h⟩ := benchOnly_next h
    cases h
    rfl
  · obtain ⟨-, h⟩ := benchOnly_next h
    cases h
    rfl
  · obtain ⟨-, h⟩ := benchOnly_next h
    split at h <;> cases h
    rfl

theorem exec_rxService_writes {s t : State} (h : exec .rxService s = .next t) :
    t = { s with
      slot := t.slot, tail := t.tail, rpc := t.rpc, rb := t.rb, ph := t.ph, pt := t.pt, rxAvail := t.rxAvail,
      trace := t.trace } := by
  obtain ⟨-, h⟩ := benchOnly_next h
  cases h
  rw [serviceLoop_writes]
  rfl

theorem exec_rxregRead_writes {s t : State} (h : exec .rxregRead s = .next t) :
    t = { s with rxAvail := t.rxAvail, resp := t.resp } := by
  obtain ⟨-, h⟩ := benchOnly_next h
  split at h <;> cases h <;> rfl

theorem exec_start_writes {s t : State} (h : exec .start s = .next t) : t = { s with en := t.en, seq := t.seq } := by
  obtain ⟨-, h⟩ := benchOnly_next h
  cases h
  rfl

/-- Settles O22: command by command, each clause reads off what the command writes. -/
theorem commandFrame : Obligations.CommandFrame := by
  intro i s t h
  cases i with
  | trySend b =>
    rw [exec_trySend_writes h]
    simp
  | tryRecv =>
    rw [exec_tryRecv_writes h]
    simp
  | feed bs =>
    rw [exec_feed_writes h]
    simp
  | isReady | isFinish | getPayload =>
    rw [exec_observer_writes (by simp) h]
    simp
  | rxService =>
    rw [exec_rxService_writes h]
    simp
  | rxregRead =>
    rw [exec_rxregRead_writes h]
    simp
  | start =>
    rw [exec_start_writes h]
    simp

/-! ### Which calls are an agent's own step (rules R135, R147, R229; log 11) -/

/-- Settles O39: the table operation by operation, and the two refusals of a call. -/
theorem callOutsideTheTableIsRefused : Obligations.CallOutsideTheTableIsRefused := by
  refine ⟨fun op => ?irq, fun op => ?task, fun s c op hout => ?outside, fun s c op => rfl⟩
  case irq => cases op <;> simp [permits]
  case task => cases op <;> simp [permits]
  case outside => simp [takeTurn, stepCall, hout]

theorem rxRead_mem_rxcOps (s : State) : .rxRead ∈ rxcOps s ↔ s.en = true ∧ s.rpc = .rRead := by
  unfold rxcOps
  cases s.en <;> cases s.rpc <;> simp

theorem trySend_mem_rxcOps (s : State) :
    .trySend ∈ rxcOps s ↔ s.en = true ∧ (s.rpc = .p1 ∨ s.rpc = .p2 ∨ s.rpc = .p3 ∨ s.rpc = .p4) := by
  unfold rxcOps
  cases s.en <;> cases s.rpc <;> simp

theorem mem_checkOps (op : CtxOp) (f : Flag) :
    op ∈ checkOps f ↔ op = .isReady ∨ op = .isFinish ∨ ((op = .getPayload ∨ op = .emit) ∧ f = .ready) := by
  cases f <;> simp [checkOps]

/-- The operations of the one enabled step of `CONS`, position by position. -/
theorem mem_consOps (op : CtxOp) (s : State) :
    op ∈ consOps s ↔ s.consGate = true ∧
      ((s.seq = .poll ∧
          (op = .tryRecv ∨ (op = .suspend ∧ s.cpc = .c2 ∧ s.ct = some s.head ∧ s.chunk = []))) ∨
        ((s.seq = .feed ∨ s.seq = .flush) ∧ op = .feed) ∨
        (s.seq = .check ∧ op ∈ checkOps s.flag)) := by
  unfold consOps
  cases s.consGate with
  | false => simp
  | true =>
    cases s.seq with
    | poll =>
      by_cases hsuspends : s.cpc = .c2 ∧ s.ct = some s.head ∧ s.chunk = [] <;> simp [hsuspends]
    | idle | sleep | feed | check | flush => simp

/-- A call by the handler of an operation of its column, where `P` says when its step performs the operation. -/
theorem takeTurn_irq_call {op : CtxOp} {s : State} {P : Prop} [Decidable P] (hperm : permits .irq op = true)
    (hmem : op ∈ rxcOps s ↔ P) :
    takeTurn (.call .own .irq op) s = if P then stepRxc s else .refused .role :=
  (if_pos hperm).trans (if_congr hmem rfl rfl)

/-- A call by the consumer of an operation of its column, where `P` says when its step performs the operation. -/
theorem takeTurn_task_call {op : CtxOp} {s : State} {P : Prop} [Decidable P] (hperm : permits .task op = true)
    (hmem : op ∈ consOps s ↔ P) :
    takeTurn (.call .own .task op) s = if P then stepCons s else .refused .role :=
  (if_pos hperm).trans (if_congr hmem rfl rfl)

/-- Whatever `RXC` does out of the running handler it does by an operation of its column. -/
theorem stepRxc_performs {s t : State} (h : stepRxc s = .next t) (hne : t ≠ s) (hrun : s.rpc ≠ .rIdle) :
    ∃ op, permits .irq op = true ∧ op ∈ rxcOps s := by
  obtain rfl | ⟨hen, -⟩ := stepRxc_next h
  · exact absurd rfl hne
  cases hrpc : s.rpc with
  | rIdle => exact absurd hrpc hrun
  | rRead => exact ⟨.rxRead, rfl, (rxRead_mem_rxcOps s).mpr ⟨hen, hrpc⟩⟩
  | p1 | p2 | p3 | p4 => exact ⟨.trySend, rfl, (trySend_mem_rxcOps s).mpr ⟨hen, by simp [hrpc]⟩⟩

/-- Whatever `CONS` does it does by an operation of its column. -/
theorem stepCons_performs {s t : State} (h : stepCons s = .next t) (hne : t ≠ s) :
    ∃ op, permits .task op = true ∧ op ∈ consOps s := by
  obtain rfl | ⟨hgate, ⟨hseq, -⟩ | ⟨hseq, -, -⟩ | ⟨hseq, -⟩ | ⟨hseq, -⟩⟩ := stepCons_next h
  · exact absurd rfl hne
  · exact ⟨.tryRecv, rfl, (mem_consOps _ s).mpr (by simp [hgate, hseq])⟩
  · exact ⟨.feed, rfl, (mem_consOps _ s).mpr (by simp [hgate, hseq])⟩
  · exact ⟨.isReady, rfl, (mem_consOps _ s).mpr (by simp [hgate, hseq, mem_checkOps])⟩
  · exact ⟨.feed, rfl, (mem_consOps _ s).mpr (by simp [hgate, hseq])⟩

/-- Settles O40: each call by the operations of its agent's one step, and each step of an agent by one of them. -/
theorem agentsKeepToTheirContext : Obligations.AgentsKeepToTheirContext := by
  intro s
  refine ⟨takeTurn_irq_call rfl (rxRead_mem_rxcOps s), takeTurn_irq_call rfl (trySend_mem_rxcOps s),
    takeTurn_task_call rfl ?tryRecv, takeTurn_task_call rfl ?suspend, takeTurn_task_call rfl ?feed,
    takeTurn_task_call rfl ?isReady, takeTurn_task_call rfl ?isFinish, takeTurn_task_call rfl ?getPayload,
    takeTurn_task_call rfl ?emit, fun t h hne hrun => ?rxc, fun t h hne => ?cons⟩
  case rxc =>
    obtain ⟨op, hperm, hmem⟩ := stepRxc_performs h hne hrun
    exact ⟨op, hperm, (takeTurn_irq_call hperm (iff_true_intro hmem)).trans ((if_pos trivial).trans h)⟩
  case cons =>
    obtain ⟨op, hperm, hmem⟩ := stepCons_performs h hne
    exact ⟨op, hperm, (takeTurn_task_call hperm (iff_true_intro hmem)).trans ((if_pos trivial).trans h)⟩
  all_goals simp [mem_consOps, mem_checkOps]

/-! ### Where a byte may be lost (rules R122, R133, R148) -/

/-- A step of `RXC` that records a drop is `P2` on a FIFO that is full by the copy `PH`. -/
theorem stepRxc_drop {s t : State} {b : Byte} (h : stepRxc s = .next t) (hdrop : t.trace = s.trace ++ [.drop b]) :
    s.rpc = .p2 ∧ s.rb = some b ∧
      ∃ ph, s.ph = some ph ∧ s.fullBy ph = true ∧ t = (s.latchPt.recordRb .drop).goRpc .rRead := by
  obtain rfl | ⟨-, ⟨-, -, rfl⟩ | ⟨-, -, rfl⟩ | ⟨-, b', r, -, rfl⟩ | ⟨-, rfl⟩ | ⟨hrpc, ph, hph, hfull, rfl⟩ |
    ⟨-, ph, -, -, rfl⟩ | ⟨-, pt, b', -, -, rfl⟩ | ⟨-, pt, -, rfl⟩⟩ := stepRxc_next h
  · simp at hdrop
  · simp at hdrop
  · simp at hdrop
  · simp at hdrop
  · simp at hdrop
  · have hrb : s.rb = some b := by simpa using hdrop
    exact ⟨hrpc, hrb, ph, hph, hfull, rfl⟩
  · simp at hdrop
  · simp at hdrop
  · simp at hdrop

/-- `CONS` records no drop: it leaves the capture side as it is, and conserves its bytes. -/
theorem stepCons_trace_ne_drop {s t : State} (h : stepCons s = .next t) (b : Byte) :
    t.trace ≠ s.trace ++ [.drop b] := by
  intro hdrop
  obtain ⟨es, hc⟩ := stepCons_conserves h
  obtain rfl : es = [.drop b] := List.append_cancel_left (hc.trace.symm.trans hdrop)
  have hflight : t.inFlight = s.inFlight := by rw [stepCons_writes h]; rfl
  have hrx : t.rxAvail = s.rxAvail := by rw [stepCons_writes h]
  have hlen := congrArg List.length hc.capture
  simp [hflight, hrx, arrivedOf, sentOf] at hlen

/-- In run mode a drop is recorded by a step of `RXC` alone. -/
theorem Move.rxc_of_drop {s t : State} {b : Byte} (hm : Move s t) (hen : s.en = true)
    (hdrop : t.trace = s.trace ++ [.drop b]) : stepRxc s = .next t := by
  cases hm with
  | rxc h => exact h
  | idle => simp at hdrop
  | arrive bs => simp at hdrop
  | wake =>
    rw [stepWake_writes] at hdrop
    simp at hdrop
  | cons h => exact absurd hdrop (stepCons_trace_ne_drop h b)
  | command i gaps h => simp [execDuring_bench h] at hen

/-- Settles O46: in run mode only `P2` records a drop, and under `irq_atomic` its copy of `HEAD` is current. -/
theorem byteLostOnlyWhenFull : Obligations.ByteLostOnlyWhenFull := by
  intro s t b hen hstep hdrop
  obtain ⟨port, turns, tick, hm⟩ := step_move hstep
  obtain ⟨hrpc, hrb, ph, hph, hfull, rfl⟩ := stepRxc_drop (hm.rxc_of_drop hen hdrop) hdrop
  have hdist : cursorDist s.cfg.cap s.tail ph = s.cfg.cap := (fullBy_eq_true_iff s ph).mp hfull
  refine ⟨hrpc, hrb, ⟨ph, hph, hdist⟩, rfl, rfl, rfl, fun hinv hatomic => ?_⟩
  obtain ⟨-, ph', -, hph', -, -, hcurrent⟩ := hinv.at_p2 hrpc
  obtain rfl : ph' = ph := Option.some.inj (hph'.symm.trans hph)
  rw [hcurrent hatomic] at hdist
  exact hdist

/-! ### The slot accesses of the two sides (rule R134) -/

/-- Settles O47: by the invariant each access is at a cursor: the oldest byte held, or the slot past the newest. -/
theorem slotAccessesDoNotRace : Obligations.SlotAccessesDoNotRace := by
  intro s h
  refine ⟨fun hgate hseq hcpc => ?read, fun hen hrpc => ?store, fun b hen hrpc hrb => ?publish,
    fun b hgate hseq hcpc hcb => ?release⟩
  case read =>
    obtain ⟨ct, -, hlt, hseen, hne, hch⟩ := h.at_c3 hcpc
    have hheld := h.head_ne_tail_of_seen hlt hseen hne
    obtain ⟨b, hread⟩ := h.oldest_written hheld
    refine ⟨b, _, stepCons_of_stepPoll hgate hseq (stepPoll_c3_read hcpc hch hread), rfl, ?_, rfl⟩
    rw [held_release_head h.head_lt h.tail_lt hheld, hread]
    rfl
  case store =>
    obtain ⟨b, ph, hrb, -, hok, hroom, hpt⟩ := h.at_p3 hrpc
    exact ⟨_, (stepRxc_at_p3 hen hrpc).trans (stepP3_store hpt hrb),
      held_storeSlot_tail b h.head_lt h.tail_lt (hok.occ_lt hroom)⟩
  case publish =>
    obtain ⟨b', ph, hrb', -, hok, hroom, hpt, hread⟩ := h.at_p4 hrpc
    obtain rfl : b' = b := by simpa [hrb'] using hrb
    have hheld := held_publish_tail h.head_lt h.tail_lt (hok.occ_lt hroom)
    rw [hread] at hheld
    exact ⟨_, (stepRxc_at_p4 hen hrpc).trans (stepP4_publish hpt hrb), hheld⟩
  case release =>
    obtain ⟨ct, b', -, hlt, hseen, hne, hch, hcb', hread⟩ := h.at_c4 hcpc
    obtain rfl : b' = b := by simpa [hcb'] using hcb
    have hheld := held_release_head h.head_lt h.tail_lt (h.head_ne_tail_of_seen hlt hseen hne)
    rw [hread] at hheld
    exact ⟨_, stepCons_of_stepPoll hgate hseq (stepPoll_c4_release hcpc hch hcb), hheld, rfl⟩

end Sys2Proof.Machine
end

section
/-! Proofs for 42_rx_capture.md: arrivals and the handler's read loop, the handler's run as the loop of `RX_SERVICE`, and the
progress of runs under fair schedules. -/

namespace Sys2Proof.Machine

/-! ### Arrival, interrupt entry, the read loop and interrupt return (rules R141 to R144) -/

theorem stepRxc_at_rRead {s : State} (hen : s.en = true) (hrpc : s.rpc = .rRead) : stepRxc s = stepRRead s := by
  simp [stepRxc, hen, hrpc]

theorem stepRRead_byte {s : State} {b : Byte} {r : List Byte} (hrx : s.rxAvail = b :: r) :
    stepRRead s = .next (((s.setRx r).latchRb b).goRpc .p1) := by
  simp [stepRRead, hrx]

theorem stepRRead_empty {s : State} (hrx : s.rxAvail = []) : stepRRead s = .next s.leaveHandler := by
  simp [stepRRead, hrx]

/-- Settles O33: an arrival leaves a byte waiting, and entry, the loop's two outcomes and return are the steps of `RXC` at
`R_IDLE` and `R_READ`. -/
theorem captureSteps : Obligations.CaptureSteps := by
  intro s
  refine ⟨fun b => rfl, fun b hen hrpc => ?pending, fun hen hrpc hrx => ?entry, fun b r hen hrpc hrx => ?byte,
    fun hen hrpc hrx => ?empty⟩
  case pending => exact (rxPending_iff _).mpr ⟨hen, List.append_ne_nil_of_right_ne_nil _ (List.cons_ne_nil b []), hrpc⟩
  case entry => exact stepRxc_of_pending ((rxPending_iff s).mpr ⟨hen, hrx, hrpc⟩)
  case byte => exact (stepRxc_at_rRead hen hrpc).trans (stepRRead_byte hrx)
  case empty => exact (stepRxc_at_rRead hen hrpc).trans (stepRRead_empty hrx)

/-! ### `RXREG_READ` (rule R142) -/

theorem exec_rxregRead_byte {s : State} {b : Byte} {r : List Byte} (hen : s.en = false) (hrx : s.rxAvail = b :: r) :
    exec .rxregRead s = .next ((s.setRx r).respond (respOption (some b))) := by
  refine (benchOnly_bench hen _).trans ?_
  simp [hrx]

theorem exec_rxregRead_empty {s : State} (hen : s.en = false) (hrx : s.rxAvail = []) :
    exec .rxregRead s = .next (s.respond (respOption none)) := by
  refine (benchOnly_bench hen _).trans ?_
  simp [hrx]

/-- Settles O18: the command by what waits in the receive register. -/
theorem rxregReadCommand : Obligations.RxregReadCommand := by
  intro s
  exact ⟨fun rest => decodeOfEncodeGivesTheCommand .rxregRead rest rfl, runModeRefusesEveryCommand _ s,
    fun b r hen hrx => exec_rxregRead_byte hen hrx, fun hen hrx => exec_rxregRead_empty hen hrx⟩

/-! ### A handler run is the loop of `RX_SERVICE` (rules R145, R146, R149, R267) -/

/-- Steps in a row, taken in two parts. -/
theorem iterate_add {f : State → Result} {m : Nat} {s t : State} (h : iterate f m s = .next t) (n : Nat) :
    iterate f (m + n) s = iterate f n t := by
  induction m generalizing s with
  | zero =>
    cases h
    rw [Nat.zero_add]
  | succ m ih =>
    rw [Nat.succ_add]
    simp only [iterate] at h ⊢
    cases hs : f s with
    | next u =>
      rw [hs] at h
      exact ih h
    | fault | refused =>
      rw [hs] at h
      cases h

/-- The `try_send` of the handler with no step between: two micro-steps when it drops the byte, four when it stores it. -/
theorem iterate_stepRxc_trySend {s : State} (hen : s.en = true) (hrpc : s.rpc = .rRead) (b : Byte) :
    ∃ n ≤ 4, iterate stepRxc n ((s.latchRb b).goRpc .p1) = .next (trySendNow b s).1 := by
  have hp1 := stepRxc_at_p1 (s := (s.latchRb b).goRpc .p1) hen rfl
  cases hf : s.fullBy s.head with
  | true =>
    refine ⟨2, by omega, (iterate_two hp1
      ((stepRxc_at_p2 (by exact hen) rfl).trans (stepP2_full rfl rfl hf))).trans ?_⟩
    rw [trySendNow_full b hf, ← hrpc]
    rfl
  | false =>
    refine ⟨4, le_rfl, (iterate_four hp1
      ((stepRxc_at_p2 (by exact hen) rfl).trans (stepP2_room rfl hf))
      ((stepRxc_at_p3 (by exact hen) rfl).trans (stepP3_store rfl rfl))
      ((stepRxc_at_p4 (by exact hen) rfl).trans (stepP4_publish rfl rfl))).trans ?_⟩
    rw [trySendNow_room b hf, ← hrpc]
    rfl

/-- One round of the read loop: the oldest byte waiting is read and sent. -/
theorem iterate_stepRxc_round {s : State} {b : Byte} {r : List Byte} (hen : s.en = true) (hrpc : s.rpc = .rRead)
    (hrx : s.rxAvail = b :: r) : ∃ n ≤ 5, iterate stepRxc n s = .next (trySendNow b (s.setRx r)).1 := by
  obtain ⟨n, hn, hsend⟩ := iterate_stepRxc_trySend (s := s.setRx r) hen hrpc b
  have hread : iterate stepRxc 1 s = .next (((s.setRx r).latchRb b).goRpc .p1) := by
    simp [iterate, stepRxc_at_rRead hen hrpc, stepRRead_byte hrx]
  exact ⟨1 + n, by omega, (iterate_add hread n).trans hsend⟩

theorem trySendNow_rpc (b : Byte) (s : State) : (trySendNow b s).1.rpc = s.rpc := by rw [trySendNow_writes]

theorem State.FifoInv.trySendNow {s : State} (h : s.FifoInv) (b : Byte) : (trySendNow b s).1.FifoInv := by
  have hlatched : (s.latchRb b).latchPh.latchPt.FifoInv := h.of_eq rfl rfl rfl rfl
  obtain ⟨-, ht⟩ | ⟨hf, ht⟩ := trySendNow_cases b s
  · rw [ht]
    exact hlatched.of_eq rfl rfl rfl rfl
  · rw [ht]
    have hroom := h.occ_lt_of_not_full hf
    exact ((hlatched.storeSlot b hroom).publish hroom (Memory.read_write_same ..)).of_eq rfl rfl rfl rfl

/-- The first byte waiting is read and sent, the others are served after it. -/
theorem Served.cons {b : Byte} {r : List Byte} {s t : State} (hinv : s.FifoInv)
    (h : Served r (trySendNow b (s.setRx r)).1 t) : Served (b :: r) s t := by
  have hread : (s.setRx r).FifoInv := hinv.of_eq rfl rfl rfl rfl
  have hall : Served (b :: r) (s.setRx r) t := by
    cases hf : (s.setRx r).fullBy (s.setRx r).head with
    | true => exact h.cons_of_full hf
    | false => exact h.cons_of_room hread hf
  exact { hall with }

/-- From `R_READ` to the handler's return: five steps for each byte waiting at most, and one that finds the register empty. -/
theorem iterate_stepRxc_serves {s : State} (hinv : s.FifoInv) (hen : s.en = true) (hrpc : s.rpc = .rRead)
    {bs : List Byte} (hrx : s.rxAvail = bs) :
    ∃ n t, n ≤ 5 * bs.length + 1 ∧ iterate stepRxc n s = .next t ∧ t.rpc = .rIdle ∧ Served bs s t := by
  induction bs generalizing s with
  | nil =>
    have hleave : iterate stepRxc 1 s = .next s.leaveHandler := by
      simp [iterate, stepRxc_at_rRead hen hrpc, stepRRead_empty hrx]
    exact ⟨1, _, by simp, hleave, rfl, { Served.nil hinv hrx with }⟩
  | cons b r ih =>
    obtain ⟨m, hm, hround⟩ := iterate_stepRxc_round hen hrpc hrx
    obtain ⟨-, hen', -, -, hrx'⟩ := trySendNow_frame b (s.setRx r)
    have hinv' : (trySendNow b (s.setRx r)).1.FifoInv :=
      State.FifoInv.trySendNow (s := s.setRx r) (hinv.of_eq rfl rfl rfl rfl) b
    obtain ⟨n, t, hn, hrest, hidle, hserved⟩ := ih hinv' (hen'.trans hen) ((trySendNow_rpc b _).trans hrpc) hrx'
    refine ⟨m + n, t, ?_, (iterate_add hround n).trans hrest, hidle, hserved.cons hinv⟩
    rw [List.length_cons]
    omega

/-- Settles O58: entry, then the read loop over the bytes waiting. -/
theorem handlerRunIsBounded : Obligations.HandlerRunIsBounded := by
  intro s hinv hpend
  obtain ⟨hen, -, -⟩ := (rxPending_iff s).mp hpend
  have henter : iterate stepRxc 1 s = .next s.enterHandler := by simp [iterate, stepRxc_of_pending hpend]
  obtain ⟨n, t, hn, hrest, hidle, hserved⟩ := iterate_stepRxc_serves (s := s.enterHandler)
    (hinv.toFifoInv.of_eq rfl rfl rfl rfl) hen rfl rfl
  refine ⟨1 + n, t, ?_, (iterate_add henter n).trans hrest, hidle, hserved.waiting, hserved.held⟩
  rw [State.enterHandler_rxAvail] at hn
  omega

/-! ### What a turn does in run mode (rules R66, R99, R195) -/

/-- Everything a turn can do in run mode when it answers a next state: no command is taken. -/
theorem takeTurn_run_next {tn : Turn} {s t : State} (hen : s.en = true) (h : takeTurn tn s = .next t) :
    (∃ b, tn = .arrive b ∧ t = lineArrive b s) ∨ t = stepWake s ∨ (∃ port, t = { s with port := port }) ∨
      stepRxc s = .next t ∨ stepCons s = .next t := by
  have hcommand {i : Instr} {gaps rest} (hx : execDuring i gaps { s with port := rest } = .next t) : False := by
    simpa [hen] using execDuring_bench hx
  obtain harr | ⟨-, hw⟩ | ⟨bs, -, ht⟩ | hr | hc | ⟨-, ht | ⟨i, rest, -, hx⟩⟩ | ⟨gaps, -, ht | ⟨i, rest, -, hx⟩⟩ :=
    takeTurn_next h
  · exact .inl harr
  · exact .inr (.inl hw)
  · exact .inr (.inr (.inl ⟨_, ht⟩))
  · exact .inr (.inr (.inr (.inl hr)))
  · exact .inr (.inr (.inr (.inr hc)))
  · exact .inr (.inr (.inl ⟨s.port, ht⟩))
  · exact (hcommand ((execDuring_nil i _).trans hx)).elim
  · exact .inr (.inr (.inl ⟨s.port, ht⟩))
  · exact (hcommand hx).elim

theorem takeTurn_keeps_run {tn : Turn} {s t : State} (hen : s.en = true) (h : takeTurn tn s = .next t) : t.en = true := by
  obtain ⟨port, hm⟩ := takeTurn_move h
  obtain ⟨-, hrun⟩ := hm.keeps_mode
  exact (hrun hen).1

/-- A turn of the agent `RXC`, a call in its context included, is its one step. -/
theorem stepRxc_of_agent {tn : Turn} {s t : State} (htn : tn.agent = .rxc) (h : takeTurn tn s = .next t) :
    stepRxc s = .next t := by
  cases tn with
  | rxc => exact h
  | call w c op =>
    obtain ⟨-, -, ⟨-, -, hstep⟩ | ⟨rfl, -, -⟩⟩ := stepCall_next h
    · exact hstep
    · cases htn
  | arrive | wake | cons | issue | host | hostDuring => cases htn

/-- A turn of the agent `CONS`, a call in its context included, is its one step. -/
theorem stepCons_of_agent {tn : Turn} {s t : State} (htn : tn.agent = .cons) (h : takeTurn tn s = .next t) :
    stepCons s = .next t := by
  cases tn with
  | cons => exact h
  | call w c op =>
    obtain ⟨-, -, ⟨rfl, -, -⟩ | ⟨-, -, hstep⟩⟩ := stepCall_next h
    · cases htn
    · exact hstep
  | arrive | wake | rxc | issue | host | hostDuring => cases htn

/-- In run mode the handler's position and the receive register are moved by `RXC`, and by arrivals alone beside it. -/
theorem takeTurn_leaves_handler {tn : Turn} {s t : State} (hen : s.en = true) (h : takeTurn tn s = .next t) :
    stepRxc s = .next t ∨ t.rpc = s.rpc ∧ ((∀ b, tn ≠ .arrive b) → t.rxAvail = s.rxAvail) := by
  obtain ⟨b, rfl, rfl⟩ | rfl | ⟨port, rfl⟩ | hr | hc := takeTurn_run_next hen h
  · exact .inr ⟨rfl, fun hno => absurd rfl (hno b)⟩
  · rw [stepWake_writes]
    exact .inr ⟨rfl, fun _ => rfl⟩
  · exact .inr ⟨rfl, fun _ => rfl⟩
  · exact .inl hr
  · rw [stepCons_writes hc]
    exact .inr ⟨rfl, fun _ => rfl⟩

/-- In run mode an awake consumer's position is moved by `CONS` alone. -/
theorem takeTurn_leaves_seq {tn : Turn} {s t : State} (hen : s.en = true) (hawake : s.seq ≠ .sleep)
    (h : takeTurn tn s = .next t) : stepCons s = .next t ∨ t.seq = s.seq := by
  obtain ⟨b, -, rfl⟩ | rfl | ⟨port, rfl⟩ | hr | hc := takeTurn_run_next hen h
  · exact .inr rfl
  · simp [stepWake, hawake]
  · exact .inr rfl
  · obtain ⟨-, -, hseq, -, -⟩ := stepRxc_frame hr
    exact .inr hseq
  · exact .inl hc

theorem IsRun.stays_in_run_mode {σ : Nat → Turn} {ρ : Nat → State} (hrun : IsRun σ ρ) {n m : Nat} (hnm : n ≤ m)
    (hen : (ρ n).en = true) : (ρ m).en = true :=
  Nat.le_induction hen (fun m _ hm => takeTurn_keeps_run hm (hrun m)) m hnm

/-! ### F1 and F4: the handler comes to idle with the register empty (rules R144, R268) -/

/-- The micro-steps of the `try_send` in progress, at most, before the handler reads the register again. -/
def RpcPos.stepsToRead : RpcPos → Nat
  | .rIdle => 0
  | .rRead => 0
  | .p1 => 4
  | .p2 => 3
  | .p3 => 2
  | .p4 => 1

/-- A bound on the steps a started handler has before it finds the register empty, if nothing more arrives. -/
def State.handlerWork (s : State) : Nat := 5 * s.rxAvail.length + s.rpc.stepsToRead

/-- A started handler's step goes to another position. -/
theorem stepRxc_moves {s t : State} (hen : s.en = true) (hbusy : s.rpc ≠ .rIdle) (h : stepRxc s = .next t) :
    t.rpc ≠ s.rpc := by
  cases hrpc : s.rpc with
  | rIdle => exact absurd hrpc hbusy
  | rRead =>
    rw [stepRxc_at_rRead hen hrpc, stepRRead] at h
    split at h <;> cases h <;> simp
  | p1 =>
    rw [stepRxc_at_p1 hen hrpc] at h
    cases h
    simp
  | p2 =>
    rw [stepRxc_at_p2 hen hrpc, stepP2] at h
    split at h
    · cases h
    · split at h <;> cases h <;> simp
  | p3 =>
    rw [stepRxc_at_p3 hen hrpc, stepP3] at h
    split at h <;> cases h
    simp
  | p4 =>
    rw [stepRxc_at_p4 hen hrpc, stepP4] at h
    split at h <;> cases h
    simp

/-- A started handler returns on an empty register, or goes on with less work before it. -/
theorem stepRxc_works {s t : State} (hen : s.en = true) (hbusy : s.rpc ≠ .rIdle) (h : stepRxc s = .next t) :
    t.rpc = .rIdle ∧ t.rxAvail = [] ∨ t.rpc ≠ .rIdle ∧ t.handlerWork < s.handlerWork := by
  have hmoves := stepRxc_moves hen hbusy h
  obtain rfl | ⟨-, ⟨hrpc, -, -⟩ | ⟨-, hrx, rfl⟩ | ⟨hrpc, b, r, hrx, rfl⟩ | ⟨hrpc, rfl⟩ | ⟨hrpc, ph, -, -, rfl⟩ |
    ⟨hrpc, ph, -, -, rfl⟩ | ⟨hrpc, pt, b, -, -, rfl⟩ | ⟨hrpc, pt, -, rfl⟩⟩ := stepRxc_next h
  · exact absurd rfl hmoves
  · exact absurd hrpc hbusy
  · exact .inl ⟨rfl, hrx⟩
  · have hwork : 5 * r.length + 4 < 5 * (r.length + 1) + 0 := by omega
    exact .inr ⟨by simp, by simpa [State.handlerWork, RpcPos.stepsToRead, hrpc, hrx] using hwork⟩
  all_goals exact .inr ⟨by simp, by simp [State.handlerWork, RpcPos.stepsToRead, hrpc]⟩

/-- A started handler, over any turn: it has returned on an empty register, or it still runs, with no more work unless a byte
arrived. -/
theorem takeTurn_keeps_handler {tn : Turn} {s t : State} (hen : s.en = true) (hbusy : s.rpc ≠ .rIdle)
    (h : takeTurn tn s = .next t) :
    t.rpc = .rIdle ∧ t.rxAvail = [] ∨
      t.rpc ≠ .rIdle ∧ ((∀ b, tn ≠ .arrive b) → t.handlerWork ≤ s.handlerWork) := by
  obtain hstep | ⟨hrpc, hrx⟩ := takeTurn_leaves_handler hen h
  · exact (stepRxc_works hen hbusy hstep).imp_right fun ⟨hbusy', hlt⟩ => ⟨hbusy', fun _ => hlt.le⟩
  · exact .inr ⟨hrpc ▸ hbusy, fun hquiet => by rw [State.handlerWork, hrpc, hrx hquiet, State.handlerWork]⟩

/-- A measure that never rises does not fall for ever. -/
theorem not_endless_descent {f : Nat → Nat} {k : Nat} (hle : ∀ m, k ≤ m → f (m + 1) ≤ f m) :
    ¬ ∀ m, k ≤ m → ∃ j, m ≤ j ∧ f (j + 1) < f j := by
  intro hlt
  obtain ⟨m, hkm, hmin⟩ := (measure f).wf.has_min {m | k ≤ m} ⟨k, le_refl k⟩
  have hkm : k ≤ m := hkm
  obtain ⟨j, hmj, hj⟩ := hlt m hkm
  have hjm : f j ≤ f m := Nat.le_induction le_rfl (fun i hi ih => (hle i (hkm.trans hi)).trans ih) j hmj
  exact hmin (j + 1) (show k ≤ j + 1 by omega) (hj.trans_le hjm)

section
variable {σ : Nat → Turn} {ρ : Nat → State} (hrun : IsRun σ ρ) {n : Nat} (hen : (ρ n).en = true)
include hrun hen

/-- F1: an idle handler over a register that is not empty is entered. -/
theorem IsRun.handler_starts (hfair : FairRxc σ ρ) (hnever : ∀ m, n ≤ m → ¬ ((ρ m).rpc = .rIdle ∧ (ρ m).rxAvail = [])) :
    ∃ m, n ≤ m ∧ (ρ m).rpc ≠ .rIdle := by
  by_contra! hidle
  have hpending (m : Nat) (hm : n ≤ m) : (ρ m).rxPending = true :=
    (rxPending_iff _).mpr ⟨hrun.stays_in_run_mode hm hen, fun hrx => hnever m hm ⟨hidle m hm, hrx⟩, hidle m hm⟩
  obtain ⟨m, hm, hagent⟩ := hfair.enters n hpending
  have hentered : ρ (m + 1) = (ρ m).enterHandler := by
    simpa [stepRxc_of_pending (hpending m hm)] using (stepRxc_of_agent hagent (hrun m)).symm
  simpa [hentered] using hidle (m + 1) (by omega)

/-- F1 and F4: no handler runs for ever. -/
theorem IsRun.handler_not_for_ever (hfair : FairRxc σ ρ) (hfinite : FiniteArrivals σ ρ) :
    ¬ ∀ m, n ≤ m → (ρ m).rpc ≠ .rIdle := by
  intro hbusy
  obtain ⟨k, hquiet⟩ := hfinite n hbusy
  have hen' (m : Nat) (hm : n ≤ m) : (ρ m).en = true := hrun.stays_in_run_mode hm hen
  refine not_endless_descent (f := fun m => (ρ m).handlerWork) (k := max n k) (fun m hm => ?_) (fun m hm => ?_)
  · have hnm : n ≤ m := by omega
    obtain ⟨hidle, -⟩ | ⟨-, hle⟩ := takeTurn_keeps_handler (hen' m hnm) (hbusy m hnm) (hrun m)
    · exact absurd hidle (hbusy (m + 1) (by omega))
    · exact hle (hquiet m (by omega))
  · have hnm : n ≤ m := by omega
    obtain ⟨j, hmj, hagent⟩ := hfair.continues m (hen' m hnm) (hbusy m hnm)
    obtain ⟨hidle, -⟩ | ⟨-, hlt⟩ :=
      stepRxc_works (hen' j (by omega)) (hbusy j (by omega)) (stepRxc_of_agent hagent (hrun j))
    · exact absurd hidle (hbusy (j + 1) (by omega))
    · exact ⟨j, hmj, hlt⟩

/-- F1 and F4: a started handler leaves its loop, and only over an empty register. -/
theorem IsRun.handler_empties_register (hfair : FairRxc σ ρ) (hfinite : FiniteArrivals σ ρ) :
    ∃ m, n ≤ m ∧ (ρ m).rpc = .rIdle ∧ (ρ m).rxAvail = [] := by
  by_contra hnone
  have hnever (m : Nat) (hm : n ≤ m) : ¬ ((ρ m).rpc = .rIdle ∧ (ρ m).rxAvail = []) := fun hdone => hnone ⟨m, hm, hdone⟩
  obtain ⟨k, hk, hbusy⟩ := hrun.handler_starts hen hfair hnever
  refine hrun.handler_not_for_ever (hrun.stays_in_run_mode hk hen) hfair hfinite ?_
  refine Nat.le_induction hbusy fun m hm hbusy => ?_
  have hnm : n ≤ m := by omega
  obtain hdone | ⟨hbusy', -⟩ := takeTurn_keeps_handler (hrun.stays_in_run_mode hnm hen) hbusy (hrun m)
  · exact absurd hdone (hnever (m + 1) (by omega))
  · exact hbusy'

end

/-! ### F2: the consumer goes on (rules R196 to R198, R268) -/

/-- A feed of either kind goes to `CHECK`. -/
theorem stepCons_feed_seq {s t : State} (hgate : s.consGate = true) (hseq : s.seq = .feed ∨ s.seq = .flush)
    (h : stepCons s = .next t) : t.seq = .check := by
  obtain hseq | hseq := hseq
  · simp only [stepCons, hgate, hseq, if_true, stepFeed] at h
    split at h
    · cases h
    · cases h
      rfl
  · simp only [stepCons, hgate, hseq, if_true] at h
    cases h
    rfl

theorem stepCons_check_seq {s t : State} (hgate : s.consGate = true) (hseq : s.seq = .check)
    (h : stepCons s = .next t) : t.seq = .flush ∨ t.seq = .poll := by
  simp only [stepCons, hgate, hseq, if_true] at h
  cases h
  obtain ⟨-, ht⟩ | ⟨-, ht⟩ | ⟨-, ht⟩ := stepCheck_eq s
  · rw [ht]
    exact .inl rfl
  · rw [ht]
    exact .inr rfl
  · rw [ht, State.goSeq_seq]
    split
    · exact .inl rfl
    · exact .inr rfl

/-- F2: behind an open gate a consumer that is not suspended takes its step at the position it is at. -/
theorem IsRun.consumer_steps {σ : Nat → Turn} {ρ : Nat → State} (hrun : IsRun σ ρ) (hfair : FairCons σ ρ) {n : Nat}
    (hgate : ∀ m, n ≤ m → (ρ m).consGate = true) (hidle : (ρ n).seq ≠ .idle) (hsleep : (ρ n).seq ≠ .sleep) :
    ∃ m, n ≤ m ∧ (ρ m).seq = (ρ n).seq ∧ stepCons (ρ m) = .next (ρ (m + 1)) := by
  by_contra! hnever
  have hstays : ∀ m, n ≤ m → (ρ m).seq = (ρ n).seq := by
    refine Nat.le_induction rfl fun m hm hseq => ?_
    obtain hstep | hseq' := takeTurn_leaves_seq (consGate_en (hgate m hm)) (hseq ▸ hsleep) (hrun m)
    · exact absurd hstep (hnever m hm hseq)
    · exact hseq'.trans hseq
  have henabled (m : Nat) (hm : n ≤ m) : (ρ m).consEnabled = true := by
    simp [State.consEnabled, hgate m hm, hstays m hm, hidle, hsleep]
  obtain ⟨m, hm, hagent⟩ := hfair n henabled
  exact hnever m hm (hstays m hm) (stepCons_of_agent hagent (hrun m))

/-! ### F3: every sleep ends in `POLL` (rules R195, R268) -/

theorem commandPieces_keep_seq (q : SeqPos) : KeptByCommandPieces fun u => u.seq = q where
  arrives _ _ h := h
  setRx _ _ h := h
  respond _ _ h := h
  trySend b u h := by rwa [trySendNow_writes]
  recvNone _ h := h
  recvSome _ _ h _ _ := h
  leave _ h := h

/-- A sleep goes on or ends in `POLL`, whatever the turn; in bench mode by `START`. -/
theorem takeTurn_sleep_seq {tn : Turn} {s t : State} (hseq : s.seq = .sleep) (h : takeTurn tn s = .next t) :
    t.seq = .sleep ∨ t.seq = .poll := by
  obtain ⟨port, hm⟩ := takeTurn_move h
  cases hm with
  | idle => exact .inl hseq
  | arrive bs => exact .inl hseq
  | wake => exact .inr (by simp [stepWake, State.withInputs, hseq])
  | rxc h =>
    obtain ⟨-, -, hseq', -, -⟩ := stepRxc_frame h
    exact .inl (hseq'.trans hseq)
  | cons h =>
    have hidle := stepCons_of_sleep (s := s.withInputs port s.turns s.tick) hseq
    obtain rfl := Host.Outcome.next.inj (hidle.symm.trans h)
    exact .inl hseq
  | command i gaps h =>
    obtain ⟨bs, rfl⟩ | rfl | hseq' := (commandPieces_keep_seq .sleep).command_next h hseq
    · exact .inl hseq
    · exact .inr rfl
    · exact .inl hseq'

theorem IsRun.sleep_ends {σ : Nat → Turn} {ρ : Nat → State} (hrun : IsRun σ ρ) (hfair : FairWake σ ρ) {n : Nat}
    (hseq : (ρ n).seq = .sleep) : ∃ m, n ≤ m ∧ (ρ m).seq = .poll := by
  by_contra! hnever
  have hasleep : ∀ m, n ≤ m → (ρ m).seq = .sleep := Nat.le_induction hseq fun m hm hsleep =>
    (takeTurn_sleep_seq hsleep (hrun m)).resolve_right (hnever (m + 1) (by omega))
  obtain ⟨m, hm, hwake⟩ := hfair n hseq
  have hwoken : ρ (m + 1) = stepWake (ρ m) := by simpa [hwake, takeTurn] using (hrun m).symm
  exact hnever (m + 1) (by omega) (by simp [hwoken, stepWake, hasleep m hm])

/-- Settles O57: F1 and F4 by the descent of the handler's work, F2 by the consumer's one step at its position, F3 by the
sleep's one way out. -/
theorem fairSchedulesMakeProgress : Obligations.FairSchedulesMakeProgress := by
  intro σ ρ hrun
  refine ⟨fun hen hfair hfinite n => ?handler, fun hfair n hgate => ⟨fun hseq => ?feed, fun hseq => ?check⟩,
    fun hfair n hseq => hrun.sleep_ends hfair hseq⟩
  case handler => exact hrun.handler_empties_register (hrun.stays_in_run_mode n.zero_le hen) hfair hfinite
  case feed =>
    obtain ⟨m, hm, hstays, hstep⟩ := hrun.consumer_steps hfair hgate
      (by obtain h | h := hseq <;> simp [h]) (by obtain h | h := hseq <;> simp [h])
    exact ⟨m + 1, by omega, stepCons_feed_seq (hgate m hm) (hstays ▸ hseq) hstep⟩
  case check =>
    obtain ⟨m, hm, hstays, hstep⟩ := hrun.consumer_steps hfair hgate (by simp [hseq]) (by simp [hseq])
    exact ⟨m + 1, by omega, stepCons_check_seq (hgate m hm) (hstays.trans hseq) hstep⟩

end Sys2Proof.Machine
end

section
/-! Proofs for 43_frame_accumulator.md: the commands and the sequencer's step that feed and observe the decoder, the bound on
its payloads, the end of the resolve loop, and `REFCODEC` against the codec contract. -/

namespace Sys2Proof

/-! ### Feeding a codec (rules R172, R173) -/

/-- KC4 (rule R172): a further feed is a feed of the state before it. -/
theorem after_append_singleton (c : Codec) (h : List (List Byte)) (bs : List Byte) :
    c.after (h ++ [bs]) = c.feed (c.after h) bs := List.foldl_concat ..

/-- Empty feeds keep the loop policy. -/
theorem keepsPolicy_replicate (c : Codec) (r : Bool) (s : c.State) (k : Nat) :
    c.KeepsPolicy r s (List.replicate k []) := by
  induction k generalizing r s with
  | zero => trivial
  | succ k ih => exact ⟨.inl rfl, ih ..⟩

theorem keepsPolicy_append_replicate (c : Codec) {r : Bool} {s : c.State} {cs : List (List Byte)}
    (hkeeps : c.KeepsPolicy r s cs) (k : Nat) : c.KeepsPolicy r s (cs ++ List.replicate k []) := by
  induction cs generalizing r s with
  | nil => exact keepsPolicy_replicate c r s k
  | cons bs cs ih =>
    obtain ⟨hbs, hkeeps⟩ := hkeeps
    exact ⟨hbs, ih hkeeps⟩

section

variable {c : Codec} {s : c.State} {bs : List Byte} {last : Option (List Byte)} {cs : List (List Byte)}

theorem framesShown_of_collecting (hflag : c.flag (c.feed s bs) = .collecting) :
    c.framesShown s last (bs :: cs) = c.framesShown (c.feed s bs) last cs := by
  simp [Codec.framesShown, hflag]

theorem framesShown_of_finished (hflag : c.flag (c.feed s bs) = .finished) :
    c.framesShown s last (bs :: cs) = c.framesShown (c.feed s bs) none cs := by
  simp [Codec.framesShown, hflag]

theorem framesShown_of_ready (hflag : c.flag (c.feed s bs) = .ready) :
    c.framesShown s none (bs :: cs) =
      c.payload (c.feed s bs) :: c.framesShown (c.feed s bs) (some (c.payload (c.feed s bs))) cs := by
  simp [Codec.framesShown, hflag]

end

/-! ### The codecs bound their payloads (rules R170, R180) -/

theorem externalCodec_payloadBounded (cap : Nat) : (externalCodec cap).PayloadBounded cap :=
  fun _ _ => List.length_take_le ..

theorem scriptCodec_payloadBounded (cap : Nat) (rows : List (Flag × List Byte)) :
    (scriptCodec cap rows).PayloadBounded cap := fun _ _ => List.length_take_le ..

/-- What `parse` accepts as a frame fits in `C` (rule R179). -/
theorem refParse_ready_fits {cap : Nat} {acc bs : List Byte} {t : RefState} (ht : refParse cap acc bs = t)
    (h : t.flag = .ready) : (t.acc.headD 0).toNat + 2 ≤ cap := by
  induction bs generalizing acc with
  | nil =>
    subst ht
    cases h
  | cons b r ih =>
    simp only [refParse] at ht
    split at ht
    · exact ih ht
    · split at ht
      · exact ih ht
      · split at ht
        · subst ht
          exact not_lt.mp ‹¬cap < _›
        · exact ih ht

/-- The bytes of the frame `REFCODEC` is collecting: those of a frame already shown no longer count. -/
def RefState.collected (s : RefState) : List Byte :=
  match s.flag with
  | .collecting => s.acc
  | .ready => []
  | .finished => []

/-- A ready frame is finished by the next feed, and its bytes are gone (rule R178). -/
theorem refFeed_of_ready {cap : Nat} {s : RefState} (h : s.flag = .ready) (bs : List Byte) :
    refFeed cap s bs = ⟨.finished, [], s.res ++ bs⟩ := by
  simp [refFeed, h]

/-- With no frame ready, a feed is parsed at once. -/
theorem refFeed_of_not_ready {cap : Nat} {s : RefState} (h : s.flag ≠ .ready) (bs : List Byte) :
    refFeed cap s bs = refParse cap s.collected (s.res ++ bs) := by
  cases hf : s.flag with
  | ready => exact absurd hf h
  | collecting | finished => simp [refFeed, RefState.collected, hf]

theorem refPayload_of_ready {s : RefState} (h : s.flag = .ready) :
    refPayload s = (s.acc.drop 1).take (s.acc.headD 0).toNat := by
  simp [refPayload, h]

theorem refFeed_payload_bounded {cap : Nat} {s : RefState} {bs : List Byte} (h : (refFeed cap s bs).flag = .ready) :
    (refPayload (refFeed cap s bs)).length ≤ cap := by
  by_cases hs : s.flag = .ready
  · rw [refFeed_of_ready hs] at h
    cases h
  · rw [refPayload_of_ready h]
    have hfits := refParse_ready_fits (refFeed_of_not_ready hs bs).symm h
    exact (List.length_take_le ..).trans (by omega)

theorem refCodec_payloadBounded (cap : Nat) : (refCodec cap).PayloadBounded cap := by
  intro h hready
  obtain rfl | ⟨h, bs, rfl⟩ := h.eq_nil_or_concat'
  · cases hready
  · rw [after_append_singleton] at hready ⊢
    exact refFeed_payload_bounded hready

/-! ### `REFCODEC` parses a frame (rules R176, R179) -/

@[simp] theorem refBuildFrame_length (p : List Byte) (h : Nat) : (refBuildFrame p h).length = p.length + 2 := by
  simp [refBuildFrame]

/-- The length byte of a frame holds its payload's length. -/
theorem refBuildFrame_head {p : List Byte} (hp : p.length ≤ 255) (h : Nat) :
    ((refBuildFrame p h).headD 0).toNat = p.length := by
  simpa [refBuildFrame] using Nat.mod_eq_of_lt (Nat.lt_succ_of_le hp)

/-- The last byte of a frame is the sum of the bytes before it. -/
theorem refBuildFrame_sum (p : List Byte) (h : Nat) :
    (refBuildFrame p h).getD (p.length + 1) 0 = byteSum ((refBuildFrame p h).take (p.length + 1)) := by
  simp [refBuildFrame]

theorem refPayload_frame {p : List Byte} (hp : p.length ≤ 255) (h : Nat) (r : List Byte) :
    refPayload ⟨.ready, refBuildFrame p h, r⟩ = p := by
  rw [refPayload_of_ready rfl, refBuildFrame_head hp]
  simp [refBuildFrame]

section

variable {cap h : Nat} {p : List Byte} (hcap : p.length + 2 ≤ cap) (hp : p.length ≤ 255)

include hcap hp

/-- The last byte of a frame completes it. -/
theorem refParse_cons_completes {acc : List Byte} {b : Byte} (hacc : acc ++ [b] = refBuildFrame p h) (r : List Byte) :
    refParse cap acc (b :: r) = ⟨.ready, refBuildFrame p h, r⟩ := by
  simp only [refParse, hacc, refBuildFrame_head hp, refBuildFrame_length, refBuildFrame_sum, not_lt.mpr hcap,
    lt_self_iff_false, if_false, if_true]

/-- A byte of a frame before its last is collected. -/
theorem refParse_cons_collects {acc c : List Byte} {b : Byte} (hacc : acc ++ [b] ++ c = refBuildFrame p h) (hc : c ≠ [])
    (r : List Byte) : refParse cap acc (b :: r) = refParse cap (acc ++ [b]) r := by
  have hhead : ((acc ++ [b]).headD 0).toNat = p.length := by
    rw [← refBuildFrame_head hp h, ← hacc]
    cases acc <;> rfl
  have hlen : (acc ++ [b]).length < p.length + 2 := by
    have hpos := List.length_pos_of_ne_nil hc
    have hlen := congrArg List.length hacc
    rw [refBuildFrame_length, List.length_append] at hlen
    omega
  simp only [refParse, hhead, hlen, not_lt.mpr hcap, if_false, if_true]

/-- Bytes short of the frame's end are collected. -/
theorem refParse_collects {acc bs c : List Byte} (hacc : acc ++ bs ++ c = refBuildFrame p h) (hc : c ≠ []) :
    refParse cap acc bs = ⟨.collecting, acc ++ bs, []⟩ := by
  induction bs generalizing acc with
  | nil => simp [refParse]
  | cons b r ih =>
    rw [refParse_cons_collects hcap hp (c := r ++ c) (by simpa using hacc) (by simp [hc]), ih (by simpa using hacc)]
    simp

/-- The parse stops right behind the frame. -/
theorem refParse_completes {acc bs r : List Byte} (hacc : acc.length < p.length + 2)
    (hbs : acc ++ bs = refBuildFrame p h ++ r) : refParse cap acc bs = ⟨.ready, refBuildFrame p h, r⟩ := by
  induction bs generalizing acc with
  | nil =>
    have hlen := congrArg List.length hbs
    simp only [List.append_nil, List.length_append, refBuildFrame_length] at hlen
    omega
  | cons b bs ih =>
    have hbs' : (acc ++ [b]) ++ bs = refBuildFrame p h ++ r := by simpa using hbs
    by_cases hlast : acc.length + 1 = p.length + 2
    · obtain ⟨hframe, rfl⟩ := List.append_inj hbs' (by simpa using hlast)
      exact refParse_cons_completes hcap hp hframe bs
    · have hprefix : acc ++ [b] <+: refBuildFrame p h :=
        List.prefix_of_prefix_length_le ⟨bs, hbs'⟩ ⟨r, rfl⟩ (by simp; omega)
      obtain ⟨c, hc⟩ := hprefix
      have hne : c ≠ [] := by
        rintro rfl
        exact hlast (by simpa using congrArg List.length hc)
      rw [refParse_cons_collects hcap hp hc hne, ih (by simp; omega) hbs']

end

/-! ### `REFCODEC` on its way through a row of frames (rules R173, R178) -/

/-- The frames of the payloads `ps`, one after the other. -/
def framesOf (h : Nat) (ps : List (List Byte)) : List Byte := (ps.map fun p => refBuildFrame p h).flatten

theorem framesOf_cons (h : Nat) (p : List Byte) (ps : List (List Byte)) :
    framesOf h (p :: ps) = refBuildFrame p h ++ framesOf h ps := rfl

/-- The bytes fed that belong to no frame shown so far: those collected, and those not yet looked at. -/
def RefState.unparsed (s : RefState) : List Byte := s.collected ++ s.res

/-- The state is on its way through the frames of the payloads `ps`, with the bytes `rest` of them still to be fed, and has
not got to the end of the first. -/
structure RefState.Awaits (s : RefState) (cap h : Nat) (rest : List Byte) (ps : List (List Byte)) : Prop where
  /-- the payloads are such as `REFCODEC` can show (log 18) -/
  fits : ∀ p ∈ ps, p.length + 2 ≤ cap ∧ p.length ≤ 255
  bytes : s.unparsed ++ rest = framesOf h ps
  short : ∀ p ∈ ps.head?, s.collected.length < p.length + 2

theorem RefState.collected_eq_nil {s : RefState} (hs : s.flag ≠ .collecting) : s.collected = [] := by
  cases hf : s.flag with
  | collecting => exact absurd hf hs
  | ready | finished => simp [RefState.collected, hf]

/-- Between two frames nothing is collected. -/
theorem RefState.Awaits.of_collected_nil {s : RefState} {cap h : Nat} {rest : List Byte} {ps : List (List Byte)}
    (hs : s.collected = []) (hfits : ∀ p ∈ ps, p.length + 2 ≤ cap ∧ p.length ≤ 255)
    (hbytes : s.res ++ rest = framesOf h ps) : s.Awaits cap h rest ps where
  fits := hfits
  bytes := by rwa [RefState.unparsed, hs]
  short p _ := by simp [hs]

/-- With no frame left to show, every byte fed belongs to a frame shown. -/
theorem RefState.Awaits.unparsed_eq_nil {s : RefState} {cap h : Nat} (hw : s.Awaits cap h [] []) : s.unparsed = [] := by
  simpa [framesOf] using hw.bytes

/-- What a feed that leaves `t` does on the way: it resolves the frame shown, shows the next one, or waits for more of it. -/
inductive RefStep (cap h : Nat) (s t : RefState) (rest : List Byte) : List (List Byte) → Prop
  | resolves {ps : List (List Byte)} (hs : s.flag = .ready) (ht : t.flag = .finished) (hw : t.Awaits cap h rest ps) :
      RefStep cap h s t rest ps
  | shows {ps : List (List Byte)} (hs : s.flag ≠ .ready) (ht : t.flag = .ready) (hw : t.Awaits cap h rest ps) :
      RefStep cap h s t rest (refPayload t :: ps)
  | waits {ps : List (List Byte)} (hs : s.flag ≠ .ready) (ht : t.flag = .collecting) (hw : t.Awaits cap h rest ps)
      (hmore : rest = [] → ps = []) : RefStep cap h s t rest ps

section

variable {cap h : Nat} {s : RefState} {bs rest : List Byte} {ps : List (List Byte)}

theorem refFeed_resolves (hs : s.flag = .ready) (hw : s.Awaits cap h rest ps) :
    RefStep cap h s (refFeed cap s []) rest ps := by
  have hbytes := hw.bytes
  rw [RefState.unparsed, RefState.collected_eq_nil (by simp [hs])] at hbytes
  rw [refFeed_of_ready hs]
  exact .resolves hs rfl (.of_collected_nil rfl hw.fits (by simpa using hbytes))

/-- The bytes parsed take in the next frame whole. -/
theorem refFeed_shows {p r : List Byte} (hs : s.flag ≠ .ready) (hw : s.Awaits cap h (bs ++ rest) (p :: ps))
    (hparsed : s.collected ++ (s.res ++ bs) = refBuildFrame p h ++ r) (hnext : r ++ rest = framesOf h ps) :
    RefStep cap h s (refFeed cap s bs) rest (p :: ps) := by
  obtain ⟨⟨hcap, hp⟩, hfits⟩ := List.forall_mem_cons.mp hw.fits
  have hfeed : refFeed cap s bs = ⟨.ready, refBuildFrame p h, r⟩ := by
    rw [refFeed_of_not_ready hs, refParse_completes hcap hp (hw.short p rfl) hparsed]
  have hshown : p = refPayload (refFeed cap s bs) := by rw [hfeed, refPayload_frame hp]
  rw [hshown]
  refine .shows hs (by rw [hfeed]) ?_
  rw [hfeed]
  exact .of_collected_nil rfl hfits hnext

/-- The bytes parsed end inside the next frame. -/
theorem refFeed_waits {p c : List Byte} (hs : s.flag ≠ .ready) (hw : s.Awaits cap h (bs ++ rest) (p :: ps))
    (hparsed : s.collected ++ (s.res ++ bs) ++ c = refBuildFrame p h) (hc : c ≠ []) (hrest : rest = c ++ framesOf h ps) :
    RefStep cap h s (refFeed cap s bs) rest (p :: ps) := by
  obtain ⟨hcap, hp⟩ := hw.fits p List.mem_cons_self
  rw [refFeed_of_not_ready hs, refParse_collects hcap hp hparsed hc]
  refine .waits hs rfl ⟨hw.fits, ?_, ?_⟩ (by simp [hrest, hc])
  · simp [RefState.unparsed, RefState.collected, framesOf_cons, ← hparsed, hrest]
  · rintro q ⟨⟩
    have hlen := congrArg List.length hparsed
    have hpos := List.length_pos_of_ne_nil hc
    rw [refBuildFrame_length, List.length_append] at hlen
    show (s.collected ++ (s.res ++ bs)).length < p.length + 2
    omega

theorem refFeed_step (hpolicy : bs = [] ∨ s.flag ≠ .ready) (hw : s.Awaits cap h (bs ++ rest) ps) :
    RefStep cap h s (refFeed cap s bs) rest ps := by
  by_cases hs : s.flag = .ready
  · obtain rfl : bs = [] := hpolicy.resolve_right (not_not_intro hs)
    exact refFeed_resolves hs hw
  · have hbytes : s.collected ++ (s.res ++ bs) ++ rest = framesOf h ps := by
      simpa [RefState.unparsed] using hw.bytes
    cases ps with
    | nil =>
      obtain ⟨⟨hcollected, hparsed⟩, hrest⟩ : (s.collected = [] ∧ s.res ++ bs = []) ∧ rest = [] := by
        simpa only [framesOf, List.map_nil, List.flatten_nil, List.append_eq_nil_iff] using hbytes
      rw [refFeed_of_not_ready hs, hcollected, hparsed, hrest]
      exact .waits hs rfl (.of_collected_nil rfl hw.fits rfl) fun _ => rfl
    | cons p ps =>
      rw [framesOf_cons] at hbytes
      obtain ⟨c, hframe, hrest⟩ | ⟨r, hparsed, hnext⟩ := List.append_eq_append_iff.mp hbytes
      · by_cases hc : c = []
        · subst hc
          exact refFeed_shows hs hw (r := []) (by simpa using hframe.symm) hrest
        · exact refFeed_waits hs hw hframe.symm hc hrest
      · exact refFeed_shows hs hw hparsed hnext.symm

end

/-! ### What `REFCODEC` shows of the frames it is fed (rule R173) -/

section

variable {cap h : Nat} {s : RefState} {r : Bool} {cs ps : List (List Byte)}

/-- Only the payloads of the frames fed are shown. -/
theorem refCodec_shows_only (hw : s.Awaits cap h cs.flatten ps) (hkeeps : (refCodec cap).KeepsPolicy r s cs)
    {t : RefState} (ht : t ∈ (refCodec cap).visits s cs) (hready : t.flag = .ready) : refPayload t ∈ ps := by
  induction cs generalizing s r ps with
  | nil => cases ht
  | cons bs cs ih =>
    obtain ⟨hbs, hkeeps⟩ := hkeeps
    have hstep := refFeed_step (hbs.imp_right And.right) hw
    obtain rfl | ht := List.mem_cons.mp ht
    · cases hstep with
      | resolves _ hflag _ => exact absurd (hready.symm.trans hflag) (by decide)
      | shows _ _ _ => exact List.mem_cons_self
      | waits _ hflag _ _ => exact absurd (hready.symm.trans hflag) (by decide)
    · cases hstep with
      | resolves _ _ hnext => exact ih hnext hkeeps ht
      | shows _ _ hnext => exact List.mem_cons_of_mem _ (ih hnext hkeeps ht)
      | waits _ _ hnext _ => exact ih hnext hkeeps ht

/-- The next frame is shown, at the latest by an empty feed after its last byte. -/
theorem refCodec_shows_next {p : List Byte} (hw : s.Awaits cap h cs.flatten (p :: ps)) (hs : s.flag ≠ .ready) :
    ∃ t ∈ (refCodec cap).visits s (cs ++ [[]]), t.flag = .ready ∧ refPayload t = p := by
  induction cs generalizing s with
  | nil =>
    cases refFeed_step (rest := []) (.inl rfl) hw with
    | resolves hready _ _ => exact absurd hready hs
    | shows _ hready _ => exact ⟨_, List.mem_cons_self, hready, rfl⟩
    | waits _ _ _ hmore => cases hmore rfl
  | cons bs cs ih =>
    cases refFeed_step (.inr hs) hw with
    | resolves hready _ _ => exact absurd hready hs
    | shows _ hready _ => exact ⟨_, List.mem_cons_self, hready, rfl⟩
    | waits _ hflag hnext _ =>
      obtain ⟨t, ht, hshown⟩ := ih hnext (by simp [hflag])
      exact ⟨t, List.mem_cons_of_mem _ ht, hshown⟩

/-- When the frames shown are those fed, the feeds end between two frames. -/
theorem refCodec_ends_between {last : Option (List Byte)} (hlast : s.flag ≠ .ready → last = none)
    (hw : s.Awaits cap h cs.flatten ps) (hkeeps : (refCodec cap).KeepsPolicy r s cs)
    (hshown : (refCodec cap).framesShown s last cs = ps) :
    RefState.Awaits (cs.foldl (refFeed cap) s) cap h [] [] := by
  induction cs generalizing s r ps last with
  | nil =>
    obtain rfl : [] = ps := hshown
    exact hw
  | cons bs cs ih =>
    obtain ⟨hbs, hkeeps⟩ := hkeeps
    cases refFeed_step (hbs.imp_right And.right) hw with
    | resolves _ hflag hnext =>
      have hrest := (framesShown_of_finished (c := refCodec cap) hflag).symm.trans hshown
      exact ih (fun _ => rfl) hnext hkeeps hrest
    | shows hs hready hnext =>
      obtain rfl := hlast hs
      have hrest := (framesShown_of_ready (c := refCodec cap) hready).symm.trans hshown
      exact ih (fun hs => absurd hready hs) hnext hkeeps (List.tail_eq_of_cons_eq hrest)
    | waits hs hflag hnext _ =>
      have hrest := (framesShown_of_collecting (c := refCodec cap) hflag).symm.trans hshown
      exact ih (fun _ => hlast hs) hnext hkeeps hrest

end

/-- A `REFCODEC` with nothing pending holds no byte of a frame. -/
theorem refCodec_unparsed_of_nothingPending {cap h m : Nat} (hcap : m + 2 ≤ cap) (hm : m ≤ 255) {s : RefState}
    (hs : (refCodec cap).NothingPending h m s) : s.unparsed = [] := by
  obtain ⟨cs, rfl, hkeeps, -, hlen, hfed⟩ := hs
  have hfits : ∀ p ∈ (refCodec cap).framesShown (refCodec cap).init none cs, p.length + 2 ≤ cap ∧ p.length ≤ 255 := by
    intro p hp
    have hp := hlen p hp
    omega
  have hstart := RefState.Awaits.of_collected_nil (h := h) (s := (refCodec cap).init) rfl hfits hfed
  have hend := refCodec_ends_between (fun _ => rfl) hstart hkeeps rfl
  exact hend.unparsed_eq_nil

theorem refCodec_reassembles {cap h m : Nat} (hcap : m + 2 ≤ cap) (hm : m ≤ 255) : (refCodec cap).Reassembles h m := by
  intro p s cs hp hs hflag hfed hkeeps
  have hunparsed : RefState.unparsed s = [] := refCodec_unparsed_of_nothingPending hcap hm hs
  obtain ⟨hcollected, hres⟩ := List.append_eq_nil_iff.mp hunparsed
  have hstart : RefState.Awaits s cap h cs.flatten [p] := by
    refine .of_collected_nil hcollected (List.forall_mem_singleton.mpr (by omega)) ?_
    rw [hres, hfed]
    exact (List.append_nil _).symm
  refine ⟨⟨1, refCodec_shows_next hstart hflag⟩, fun k t ht hready => ?_⟩
  have hflatten : (cs ++ List.replicate k []).flatten = cs.flatten := by simp
  exact List.mem_singleton.mp
    (refCodec_shows_only (hflatten ▸ hstart) (keepsPolicy_append_replicate _ hkeeps k) ht hready)

/-- KC3 (rule R171): one empty feed finishes a ready frame. -/
theorem refCodec_reachesFinished (cap : Nat) : (refCodec cap).ReachesFinished := by
  intro h hready
  have hfinished : (refFeed cap ((refCodec cap).after h) []).flag = .finished := by rw [refFeed_of_ready hready]
  refine ⟨1, le_rfl, ?_, fun j hj hj' => by omega⟩
  exact (congrArg RefState.flag (after_append_singleton (refCodec cap) h [])).trans hfinished

end Sys2Proof

namespace Sys2Proof.Machine

/-! ### Feeding the decoder (rules R163, R165, R196) -/

theorem feedRefused_eq_true_iff (s : State) (bs : List Byte) :
    s.feedRefused bs = true ↔ bs ≠ [] ∧ s.flag = .ready := by
  simp [State.feedRefused]

theorem feedRefused_eq_false_iff (s : State) (bs : List Byte) :
    s.feedRefused bs = false ↔ bs = [] ∨ s.flag ≠ .ready := by
  simp only [← Bool.not_eq_true, feedRefused_eq_true_iff]
  tauto

theorem exec_feed_refused {s : State} {bs : List Byte} (hen : s.en = false) (hbs : bs ≠ []) (hflag : s.flag = .ready) :
    exec (.feed bs) s = .refused .feedWhileReady :=
  (benchOnly_bench hen _).trans (if_pos ((feedRefused_eq_true_iff s bs).mpr ⟨hbs, hflag⟩))

theorem exec_feed_fed {s : State} {bs : List Byte} (hen : s.en = false) (h : bs = [] ∨ s.flag ≠ .ready) :
    exec (.feed bs) s = .next (s.feedDec bs) :=
  (benchOnly_bench hen _).trans (by rw [(feedRefused_eq_false_iff s bs).mpr h]; rfl)

/-- Any two count bytes that give the length of the data spell the `FEED` of that data. -/
theorem decode_feed {hi lo : Byte} {bs : List Byte} (h : countOf hi lo = bs.length) (rest : List Byte) :
    decode (0x10 :: hi :: lo :: (bs ++ rest)) = .ok (.feed bs, rest) := by
  have hwf : (Instr.feed bs).WellFormed = true := by simpa [Instr.WellFormed, ← h] using countOf_lt hi lo
  have hdecode := decodeOfEncodeGivesTheCommand (.feed bs) rest hwf
  rw [encode, ← h, countBytes_countOf] at hdecode
  exact hdecode

/-- Settles O14: refused or fed by the test of rule R165. -/
theorem feedCommand : Obligations.FeedCommand := by
  intro bs s
  exact ⟨fun hi lo rest hcount => decode_feed hcount rest, runModeRefusesEveryCommand _ s, exec_feed_refused,
    exec_feed_fed, after_append_singleton ..⟩

theorem stepCons_at_feed {s : State} (hgate : s.consGate = true) (hseq : s.seq = .feed) : stepCons s = stepFeed s := by
  simp [stepCons, hgate, hseq]

/-- Settles O35: the step is refused or feeds by the test of the command. -/
theorem feedStep : Obligations.FeedStep := by
  intro s hen hseq hpreempt
  have hfeed : stepCons s = stepFeed s := stepCons_at_feed ((consGate_iff s).mpr ⟨hen, hpreempt⟩) hseq
  refine ⟨fun h => hfeed.trans ?fed, fun hchunk hflag => hfeed.trans ?refused⟩
  case fed =>
    rw [stepFeed, (feedRefused_eq_false_iff s _).mpr h]
    rfl
  case refused => exact if_pos ((feedRefused_eq_true_iff s _).mpr ⟨hchunk, hflag⟩)

/-! ### The observers (rules R166 to R169) -/

theorem exec_isReady_bench {s : State} (hen : s.en = false) :
    exec .isReady s = .next (s.respond (respBool (decide (s.flag = .ready)))) := benchOnly_bench hen _

theorem exec_isFinish_bench {s : State} (hen : s.en = false) :
    exec .isFinish s = .next (s.respond (respBool (decide (s.flag = .finished)))) := benchOnly_bench hen _

theorem exec_getPayload_ready {s : State} (hen : s.en = false) (hflag : s.flag = .ready) :
    exec .getPayload s = .next (s.respond (respPayload s.payload)) := (benchOnly_bench hen _).trans (if_pos hflag)

theorem exec_getPayload_refused {s : State} (hen : s.en = false) (hflag : s.flag ≠ .ready) :
    exec .getPayload s = .refused .payloadNotReady := (benchOnly_bench hen _).trans (if_neg hflag)

theorem exec_isReady_true {s : State} (hen : s.en = false) (hflag : s.flag = .ready) :
    exec .isReady s = .next (s.respond [0x01]) := by
  simp [exec_isReady_bench hen, hflag, respBool]

theorem exec_isReady_false {s : State} (hen : s.en = false) (hflag : s.flag ≠ .ready) :
    exec .isReady s = .next (s.respond [0x00]) := by
  simp [exec_isReady_bench hen, hflag, respBool]

theorem exec_isFinish_true {s : State} (hen : s.en = false) (hflag : s.flag = .finished) :
    exec .isFinish s = .next (s.respond [0x01]) := by
  simp [exec_isFinish_bench hen, hflag, respBool]

theorem exec_isFinish_false {s : State} (hen : s.en = false) (hflag : s.flag ≠ .finished) :
    exec .isFinish s = .next (s.respond [0x00]) := by
  simp [exec_isFinish_bench hen, hflag, respBool]

/-- Settles O15: the answer is the test of the flag. -/
theorem isReadyCommand : Obligations.IsReadyCommand := by
  intro s
  exact ⟨fun rest => decodeOfEncodeGivesTheCommand .isReady rest rfl, runModeRefusesEveryCommand _ s,
    exec_isReady_true, exec_isReady_false⟩

/-- Settles O16: the answer is the test of the flag. -/
theorem isFinishCommand : Obligations.IsFinishCommand := by
  intro s
  exact ⟨fun rest => decodeOfEncodeGivesTheCommand .isFinish rest rfl, runModeRefusesEveryCommand _ s,
    exec_isFinish_true, exec_isFinish_false⟩

/-- An observer that answers appends its answer, which no response already given bears on. -/
theorem exec_observer_next {i : Instr} (hi : i = .isReady ∨ i = .isFinish ∨ i = .getPayload) {s t : State}
    (h : exec i s = .next t) :
    ∃ bs, t = s.respond bs ∧ ∀ cs, exec i (s.respond cs) = .next ((s.respond cs).respond bs) := by
  obtain rfl | rfl | rfl := hi
  · obtain ⟨hen, h⟩ := benchOnly_next h
    cases h
    exact ⟨_, rfl, fun cs => exec_isReady_bench hen⟩
  · obtain ⟨hen, h⟩ := benchOnly_next h
    cases h
    exact ⟨_, rfl, fun cs => exec_isFinish_bench hen⟩
  · obtain ⟨hen, h⟩ := benchOnly_next h
    split at h <;> cases h
    rename_i hflag
    exact ⟨_, rfl, fun cs => exec_getPayload_ready hen hflag⟩

/-- Settles O24: what an observer reads, its own answer leaves alone. -/
theorem observersAreIdempotent : Obligations.ObserversAreIdempotent := by
  intro i s t hi h
  obtain ⟨bs, rfl, hagain⟩ := exec_observer_next hi h
  exact ⟨bs, rfl, hagain bs⟩

/-! ### The codecs the parameters select (rules R161, R170, R180) -/

/-- Settles O48: KC1 is `flagOf_nil`, KC2 a bound for each codec. -/
theorem codecsMeetInitialFlagAndPayloadBound : Obligations.CodecsMeetInitialFlagAndPayloadBound := by
  intro p
  refine ⟨flagOf_nil p, ?_⟩
  unfold Params.codecOf
  cases p.codec with
  | external => exact externalCodec_payloadBounded p.cap
  | reference => exact refCodec_payloadBounded p.cap
  | script rows => exact scriptCodec_payloadBounded p.cap rows

/-- Settles O60: KC1 by `init`, KC2 by what `parse` accepts, KC3 by one empty feed, KC5 by the frames fed. -/
theorem refCodecMeetsTheContract : Obligations.RefCodecMeetsTheContract := by
  intro cap h m hcap hm
  exact ⟨rfl, refCodec_payloadBounded cap, refCodec_reachesFinished cap, refCodec_reassembles hcap hm⟩

/-! ### The payload of a ready frame, answered and emitted (rules R168, R170, R197) -/

theorem payload_length_le {s : State} (h : s.flag = .ready) : s.payload.length ≤ s.cfg.cap :=
  (codecsMeetInitialFlagAndPayloadBound s.cfg).2 s.dec h

/-- Settles O17: a payload of at most `C` bytes has its length in the two count bytes. -/
theorem getPayloadCommand : Obligations.GetPayloadCommand := by
  intro s
  refine ⟨fun rest => decodeOfEncodeGivesTheCommand .getPayload rest rfl, runModeRefusesEveryCommand _ s,
    exec_getPayload_refused, fun hen hflag => ?ready⟩
  case ready =>
    have hlen : s.payload.length < 65536 := (payload_length_le hflag).trans_lt (cap_lt s.cfg)
    exact ⟨_, _, countOf_ofNat hlen, exec_getPayload_ready hen hflag⟩

/-- Settles O49: what a step emits is the payload of a ready frame. -/
theorem emittedPayloadsStayBounded : Obligations.EmittedPayloadsStayBounded := by
  intro s t hbounded h p hp
  obtain ⟨hcfg, -⟩ := runModeIsForGood s t h
  rw [hcfg]
  obtain hout | ⟨-, -, hflag, hout, -⟩ := outGrowsOnlyAtCheck s t h
  · exact hbounded p (hout ▸ hp)
  · rw [hout, List.mem_append, List.mem_singleton] at hp
    obtain hp | rfl := hp
    · exact hbounded p hp
    · exact payload_length_le hflag

/-! ### The resolve loop (rules R197, R198, R201) -/

theorem stepCons_at_check {s : State} (hgate : s.consGate = true) (hseq : s.seq = .check) :
    stepCons s = .next (stepCheck s) := by
  simp [stepCons, hgate, hseq]

theorem stepCons_at_flush {s : State} (hgate : s.consGate = true) (hseq : s.seq = .flush) :
    stepCons s = .next (stepFlush s) := by
  simp [stepCons, hgate, hseq]

theorem stepCheck_ready {s : State} (hflag : s.flag = .ready) :
    stepCheck s = ((s.emit s.payload).setResolving true).goSeq .flush := by
  simp [stepCheck, hflag]

theorem stepCheck_finished {s : State} (hflag : s.flag = .finished) :
    stepCheck s = (s.setResolving false).goSeq .poll := by
  simp [stepCheck, hflag]

theorem stepCheck_collecting {s : State} (hflag : s.flag = .collecting) (hres : s.resolving = true) :
    stepCheck s = s.goSeq .flush := by
  simp [stepCheck, hflag, hres]

/-- The consumer is at a `CHECK` of the resolve loop: a frame was emitted and its `finished` is still to be seen. -/
structure State.Resolving (s : State) : Prop where
  gate : s.consGate = true
  at_check : s.seq = .check
  resolving : s.resolving = true

/-- One round of the loop from a `CHECK` that sees `ready`: the payload is emitted and an empty list fed. -/
theorem resolveRound_ready {s : State} (hgate : s.consGate = true) (hseq : s.seq = .check) (hflag : s.flag = .ready) :
    ∃ u, iterate stepCons 2 s = .next u ∧ u.Resolving ∧ u.cfg = s.cfg ∧ u.dec = s.dec ++ [[]] ∧
      u.out = s.out ++ [s.payload] := by
  refine ⟨stepFlush (((s.emit s.payload).setResolving true).goSeq .flush), iterate_two ?_ (stepCons_at_flush hgate rfl),
    ⟨hgate, rfl, rfl⟩, by simp [stepFlush], rfl, rfl⟩
  rw [stepCons_at_check hgate hseq, stepCheck_ready hflag]

/-- One round of the loop from a `CHECK` that sees `collecting`: an empty list is fed. -/
theorem resolveRound_collecting {s : State} (hs : s.Resolving) (hflag : s.flag = .collecting) :
    ∃ u, iterate stepCons 2 s = .next u ∧ u.Resolving ∧ u.cfg = s.cfg ∧ u.dec = s.dec ++ [[]] ∧ u.out = s.out := by
  refine ⟨stepFlush (s.goSeq .flush), iterate_two ?_ (stepCons_at_flush hs.gate rfl), ⟨hs.gate, rfl, hs.resolving⟩,
    rfl, rfl, rfl⟩
  rw [stepCons_at_check hs.gate hs.at_check, stepCheck_collecting hflag hs.resolving]

theorem resolveRound {s : State} (hs : s.Resolving) (hflag : s.flag ≠ .finished) :
    ∃ u more, iterate stepCons 2 s = .next u ∧ u.Resolving ∧ u.cfg = s.cfg ∧ u.dec = s.dec ++ [[]] ∧
      u.out = s.out ++ more := by
  cases hf : s.flag with
  | ready =>
    obtain ⟨u, hu⟩ := resolveRound_ready hs.gate hs.at_check hf
    exact ⟨u, _, hu⟩
  | collecting =>
    obtain ⟨u, hiter, hu, hcfg, hdec, hout⟩ := resolveRound_collecting hs hf
    exact ⟨u, [], hiter, hu, hcfg, hdec, by simpa using hout⟩
  | finished => exact absurd hf hflag

/-- After one empty feed, `j` further ones show what `j + 1` showed before it. -/
theorem flagOf_replicate_succ {s u : State} (hcfg : u.cfg = s.cfg) (hdec : u.dec = s.dec ++ [[]]) (j : Nat) :
    u.cfg.flagOf (u.dec ++ List.replicate j []) = s.cfg.flagOf (s.dec ++ List.replicate (j + 1) []) := by
  rw [hcfg, hdec, List.append_assoc]
  rfl

/-- The loop takes one round for each empty feed the codec needs, then the `CHECK` that sees `finished`. -/
theorem resolveLoop_ends {s : State} (hs : s.Resolving) {k : Nat}
    (hfin : s.cfg.flagOf (s.dec ++ List.replicate k []) = .finished)
    (hfirst : ∀ j < k, s.cfg.flagOf (s.dec ++ List.replicate j []) ≠ .finished) :
    ∃ n t more, iterate stepCons n s = .next t ∧ t.seq = .poll ∧ t.resolving = false ∧ t.flag = .finished ∧
      t.out = s.out ++ more := by
  induction k generalizing s with
  | zero =>
    have hflag : s.flag = .finished := by simpa [State.flag] using hfin
    refine ⟨1, (s.setResolving false).goSeq .poll, [], ?_, rfl, rfl, hflag, by simp⟩
    simp [iterate, stepCons_at_check hs.gate hs.at_check, stepCheck_finished hflag]
  | succ k ih =>
    have hflag : s.flag ≠ .finished := by simpa [State.flag] using hfirst 0 k.succ_pos
    obtain ⟨u, more, hround, hu, hcfg, hdec, hout⟩ := resolveRound hs hflag
    have hfeeds := flagOf_replicate_succ hcfg hdec
    obtain ⟨n, t, more', hiter, hseq, hres, htflag, htout⟩ := ih hu ((hfeeds k).trans hfin)
      (fun j hj => hfeeds j ▸ hfirst (j + 1) (by omega))
    exact ⟨2 + n, t, more ++ more', (iterate_add hround n).trans hiter, hseq, hres, htflag, by simp [htout, hout]⟩

/-- Settles O59: the round that emits, then the loop over the empty feeds of KC3 that are left. -/
theorem resolveLoopEnds : Obligations.ResolveLoopEnds := by
  intro s hgate hseq hflag hreach
  obtain ⟨k, hk, hfin, hfirst⟩ := hreach s.dec hflag
  obtain ⟨k, rfl⟩ := Nat.exists_eq_add_of_le' hk
  obtain ⟨u, hround, hu, hcfg, hdec, hout⟩ := resolveRound_ready hgate hseq hflag
  have hfeeds := flagOf_replicate_succ hcfg hdec
  obtain ⟨n, t, more, hiter, hpoll, hres, htflag, htout⟩ := resolveLoop_ends hu ((hfeeds k).trans hfin)
    (fun j hj => hfeeds j ▸ hfirst (j + 1) (by omega) (by omega))
  exact ⟨2 + n, t, (iterate_add hround n).trans hiter, hpoll, hres, htflag, more, by simp [htout, hout]⟩

end Sys2Proof.Machine
end

section
/-! Proofs for 44_line_decoder.md: `START`, the steps `CHECK` and `FLUSH`, the sleep, and the decoder's protocol, by which a run
from launch never stops. -/

namespace Sys2Proof.Machine

/-! ### `START` (rule R191) -/

theorem exec_start_bench {s : State} (hen : s.en = false) : exec .start s = .next { s with en := true, seq := .poll } :=
  benchOnly_bench hen _

/-- Settles O20: the command by the mode. -/
theorem startCommand : Obligations.StartCommand := by
  intro s
  exact ⟨fun rest => decodeOfEncodeGivesTheCommand .start rest rfl, runModeRefusesEveryCommand _ s, exec_start_bench⟩

/-! ### `CHECK` and `FLUSH` (rules R197, R198) -/

theorem stepCheck_collecting_unresolved {s : State} (hflag : s.flag = .collecting) (hres : s.resolving = false) :
    stepCheck s = s.goSeq .poll := by
  simp [stepCheck, hflag, hres]

/-- Settles O36: the step by the flag it sees, and where that is `collecting` by `RESOLVING`. -/
theorem checkStep : Obligations.CheckStep := by
  intro s hen hseq hpreempt
  have hcheck : stepCons s = .next (stepCheck s) := stepCons_at_check ((consGate_iff s).mpr ⟨hen, hpreempt⟩) hseq
  rw [hcheck]
  exact ⟨fun hflag => congrArg _ (stepCheck_ready hflag), fun hflag => congrArg _ (stepCheck_finished hflag),
    fun hflag hres => congrArg _ (stepCheck_collecting hflag hres),
    fun hflag hres => congrArg _ (stepCheck_collecting_unresolved hflag hres)⟩

/-- Settles O37: the step behind the open gate, and the codec's feed by KC4. -/
theorem flushStep : Obligations.FlushStep := by
  intro s hen hseq hpreempt
  exact ⟨stepCons_at_flush ((consGate_iff s).mpr ⟨hen, hpreempt⟩) hseq, after_append_singleton ..⟩

/-! ### The sleep (rule R195) -/

/-- In run mode a turn that wakes the consumer is `WAKE`. -/
theorem takeTurn_keeps_sleep {tn : Turn} {s t : State} (hen : s.en = true) (hseq : s.seq = .sleep) (htn : tn ≠ .wake)
    (h : takeTurn tn s = .next t) : t.seq = .sleep := by
  have hcommand {i : Instr} {gaps rest} (hx : execDuring i gaps { s with port := rest } = .next t) : False := by
    simpa [hen] using execDuring_bench hx
  obtain ⟨b, -, rfl⟩ | ⟨hw, -⟩ | ⟨bs, -, rfl⟩ | hr | hc | ⟨-, rfl | ⟨i, rest, -, hx⟩⟩ |
    ⟨gaps, -, rfl | ⟨i, rest, -, hx⟩⟩ := takeTurn_next h
  · exact hseq
  · exact absurd hw htn
  · exact hseq
  · obtain ⟨-, -, hseq', -, -⟩ := stepRxc_frame hr
    exact hseq'.trans hseq
  · obtain rfl := Host.Outcome.next.inj ((stepCons_of_sleep hseq).symm.trans hc)
    exact hseq
  · exact hseq
  · exact (hcommand ((execDuring_nil i _).trans hx)).elim
  · exact hseq
  · exact (hcommand hx).elim

/-- Settles O43: by the turn the step takes. -/
theorem onlyWakeEndsTheSleep : Obligations.OnlyWakeEndsTheSleep := by
  intro s t hen hseq h htn
  obtain ⟨turns, tick, hu⟩ := nextTurn_state s
  rw [step, hu] at h
  exact takeTurn_keeps_sleep (s := s.withInputs s.port turns tick) hen hseq htn h

/-! ### Where a step can be refused (rules R165, R203) -/

theorem stepRxc_ne_refused (s : State) (r : Refusal) : stepRxc s ≠ .refused r := by
  unfold stepRxc
  split
  · cases s.rpc with
    | rIdle =>
      simp only [stepREnter]
      split <;> simp
    | rRead =>
      simp only [stepRRead]
      split <;> simp
    | p1 => simp [stepP1]
    | p2 =>
      simp only [stepP2]
      split
      · simp
      · split <;> simp
    | p3 =>
      simp only [stepP3]
      split <;> simp
    | p4 =>
      simp only [stepP4]
      split <;> simp
  · simp

theorem stepPoll_ne_refused (s : State) (r : Refusal) : stepPoll s ≠ .refused r := by
  unfold stepPoll
  cases s.cpc with
  | c1 => simp [stepC1]
  | c2 =>
    simp only [stepC2]
    split
    · simp
    · split <;> simp
  | c3 =>
    simp only [stepC3]
    split
    · simp
    · split <;> simp
  | c4 =>
    simp only [stepC4]
    split <;> simp

/-- The one refusal of `CONS` is that of a feed while ready, which the flag premise shuts out. -/
theorem stepCons_ne_refused {s : State} (h : s.FlagGuard) (r : Refusal) : stepCons s ≠ .refused r := by
  unfold stepCons
  split
  · cases hseq : s.seq with
    | poll => exact stepPoll_ne_refused s r
    | feed =>
      have hfed : s.feedRefused s.chunk = false :=
        (feedRefused_eq_false_iff s _).mpr (.inr (h (.inr (.inr hseq))))
      simp [stepFeed, hfed]
    | idle | sleep | check | flush => simp
  · simp

theorem takeTurn_ne_refused {tn : Turn} {s : State} (h : s.FlagGuard) (hown : ownTurn tn = true) (r : Refusal) :
    takeTurn tn s ≠ .refused r := by
  cases tn with
  | arrive | wake | issue => simp [takeTurn]
  | rxc => exact stepRxc_ne_refused s r
  | cons => exact stepCons_ne_refused h r
  | host | hostDuring | call => cases hown

/-! ### The flag premise is kept (rule R203) -/

theorem flag_eq_of_dec {s t : State} (hcfg : t.cfg = s.cfg) (hdec : t.dec = s.dec) : t.flag = s.flag := by
  rw [State.flag, hcfg, hdec, State.flag]

/-- The flag premise reads the parameters, `DEC` and `SEQ`. -/
theorem State.FlagGuard.of_eq {s t : State} (h : s.FlagGuard) (hcfg : t.cfg = s.cfg) (hdec : t.dec = s.dec)
    (hseq : t.seq = s.seq) : t.FlagGuard := by
  rw [State.FlagGuard, hseq, flag_eq_of_dec hcfg hdec]
  exact h

theorem State.FlagGuard.of_resolve_loop {s : State} (hseq : s.seq = .check ∨ s.seq = .flush) : s.FlagGuard := by
  intro hloop
  obtain hseq | hseq := hseq <;> simp [hseq] at hloop

/-- `CHECK` leaves the resolve loop for `POLL` only where the flag it saw is not `ready`. -/
theorem stepCheck_flagGuard (s : State) : (stepCheck s).FlagGuard := by
  obtain ⟨-, ht⟩ | ⟨hflag, ht⟩ | ⟨hflag, ht⟩ := stepCheck_eq s
  · exact .of_resolve_loop (.inr (by simp [ht]))
  · exact fun _ => by simp [ht, hflag]
  · exact fun _ => by simp [ht, hflag]

/-- A result of `POLL` leaves the flag as it is, a feed goes to `CHECK`, and `CHECK` to where the premise holds. -/
theorem stepCons_keeps_flagGuard {s t : State} (h : s.FlagGuard) (hstep : stepCons s = .next t) : t.FlagGuard := by
  obtain rfl | ⟨-, ⟨hseq, hpoll⟩ | ⟨-, -, rfl⟩ | ⟨-, rfl⟩ | ⟨-, rfl⟩⟩ := stepCons_next hstep
  · exact h
  · obtain ⟨hcfg, -, hdec, -⟩ := stepPoll_frame hpoll
    exact fun _ => flag_eq_of_dec hcfg hdec ▸ h (.inl hseq)
  · exact .of_resolve_loop (.inl rfl)
  · exact stepCheck_flagGuard s
  · exact .of_resolve_loop (.inl rfl)

theorem stepWake_keeps_flagGuard {s : State} (h : s.FlagGuard) : (stepWake s).FlagGuard := by
  unfold stepWake
  split
  · next hseq => exact fun _ => h (.inr (.inl hseq))
  · exact h

theorem takeTurn_keeps_flagGuard {tn : Turn} {s t : State} (hen : s.en = true) (h : s.FlagGuard)
    (hstep : takeTurn tn s = .next t) : t.FlagGuard := by
  obtain ⟨b, -, rfl⟩ | rfl | ⟨port, rfl⟩ | hr | hc := takeTurn_run_next hen hstep
  · exact h.of_eq rfl rfl rfl
  · exact stepWake_keeps_flagGuard h
  · exact h.of_eq rfl rfl rfl
  · obtain ⟨hcfg, -, hseq, hdec, -⟩ := stepRxc_frame hr
    exact h.of_eq hcfg hdec hseq
  · exact stepCons_keeps_flagGuard h hc

/-- Settles O55: a turn of its own agents is refused only by a feed while ready, and every turn keeps the flag premise. -/
theorem runModeNeverRefuses : Obligations.RunModeNeverRefuses := by
  intro s _ hen hguard hown
  obtain ⟨turns, tick, hu⟩ := nextTurn_state s
  have hguard' : (s.withInputs s.port turns tick).FlagGuard := hguard.of_eq rfl rfl rfl
  rw [step, hu]
  exact ⟨takeTurn_ne_refused hguard' hown, fun t => takeTurn_keeps_flagGuard hen hguard'⟩

/-! ### A run from launch (rules R203, R252, R257) -/

/-- What every state of a run from launch meets. -/
structure State.Running (s : State) : Prop where
  inv : s.Inv
  flagGuard : s.FlagGuard
  run_mode : s.en = true

theorem takeTurn_keeps_inv {tn : Turn} {s t : State} (h : s.Inv) (hstep : takeTurn tn s = .next t) : t.Inv := by
  obtain ⟨port, hm⟩ := takeTurn_move hstep
  exact hm.keeps_inv (h.withInputs port s.turns s.tick)

/-- A turn of the block's own agents or the environment is neither a fault nor refused, so it answers, and the run goes on. -/
theorem State.Running.takeTurn_next {s : State} (h : s.Running) {tn : Turn} (hown : ownTurn tn = true) :
    ∃ t, takeTurn tn s = .next t ∧ t.Running := by
  cases hstep : takeTurn tn s with
  | next t =>
    exact ⟨t, rfl, takeTurn_keeps_inv h.inv hstep, takeTurn_keeps_flagGuard h.run_mode h.flagGuard hstep,
      takeTurn_keeps_run h.run_mode hstep⟩
  | fault f => exact absurd hstep (takeTurn_ne_fault h.inv tn f)
  | refused r => exact absurd hstep (takeTurn_ne_refused h.flagGuard hown r)

theorem State.Running.runTurns_next {s : State} (h : s.Running) {ts : List Turn} (hown : ∀ tn ∈ ts, ownTurn tn = true) :
    ∃ u, runTurns ts s = .next u ∧ u.Running := by
  induction ts generalizing s with
  | nil => exact ⟨s, rfl, h⟩
  | cons tn ts ih =>
    obtain ⟨hown_tn, hown_ts⟩ := List.forall_mem_cons.mp hown
    obtain ⟨t, hstep, ht⟩ := h.takeTurn_next hown_tn
    obtain ⟨u, hrest, hu⟩ := ih ht hown_ts
    exact ⟨u, by rwa [runTurns, hstep], hu⟩

/-- `START` from a launch state opens the run. -/
theorem State.Launch.running_start {s : State} (h : s.Launch) (hlatch : s.LatchesInRange) :
    { s with en := true, seq := .poll : State }.Running := by
  obtain ⟨-, -, hen⟩ := h.seq_idle
  exact ⟨start_keeps_inv (h.inv hlatch) hen, fun _ => h.flag_not_ready, rfl⟩

/-- Settles O56: `START` opens the run, and each of its turns carries it on. -/
theorem runFromLaunchNeverStops : Obligations.RunFromLaunchNeverStops := by
  intro s hlaunch hlatch ts hown
  obtain ⟨-, -, hen⟩ := hlaunch.seq_idle
  obtain ⟨u, hrun, hu⟩ := (hlaunch.running_start hlatch).runTurns_next hown
  exact ⟨_, u, exec_start_bench hen, hrun, hu.inv, hu.flagGuard, hu.run_mode⟩

end Sys2Proof.Machine
end

section
/-! Proofs for 70_reset_and_hazards.md: the end of a run, where only a wake leads on. -/

namespace Sys2Proof.Machine

/-! ### The quiescent state (rule R269) -/

theorem stepRxc_idle_of_empty {s : State} (hrpc : s.rpc = .rIdle) (hrx : s.rxAvail = []) : stepRxc s = .next s := by
  simp [stepRxc, stepREnter, hrpc, hrx]

theorem stepWake_of_sleep {s : State} (hseq : s.seq = .sleep) : stepWake s = s.goSeq .poll := if_pos hseq

/-- A `try_recv` with nothing to return and nothing staged leads back to sleep: its two latches are all it leaves behind. -/
theorem iterate_stepCons_back_to_sleep {s : State} (hgate : s.consGate = true) (hseq : s.seq = .poll) (hcpc : s.cpc = .c1)
    (hempty : s.head = s.tail) (hchunk : s.chunk = []) :
    iterate stepCons 2 s = .next { s with ct := some s.tail, ch := some s.head, seq := .sleep } := by
  rw [iterate_stepCons_none hgate hseq hcpc hempty, pollNone_eq, State.latchCh_chunk]
  simp [State.latchCt, State.latchCh, State.goCpc, State.goSeq, hcpc, hchunk]

/-- Settles O50: no interrupt is pending and the consumer sleeps, and the `try_recv` a wake starts finds the FIFO empty. -/
theorem quiescentStateOnlyWakes : Obligations.QuiescentStateOnlyWakes := by
  intro s hen hquiescent
  obtain ⟨hrx, hrpc, hempty, hseq, hcpc, hchunk⟩ := hquiescent
  refine ⟨stepRxc_idle_of_empty hrpc hrx, stepCons_of_sleep hseq, ?wake⟩
  case wake =>
    have hgate : (s.goSeq .poll).consGate = true := (consGate_iff _).mpr ⟨hen, .inr hrpc⟩
    rw [stepWake_of_sleep hseq, iterate_stepCons_back_to_sleep hgate rfl hcpc hempty hchunk]
    simp [State.goSeq, hseq]

end Sys2Proof.Machine
end
